-- ==== Sys2Proof/Word.lean ====
section
/-! DEFINITION. The widths the manual gives names to: data bytes, the 48-bit data word W of a frame (R199),
11-bit identifiers (section 0.4.3), the 24-bit value of a management frame (R202) and 4-bit codes. -/

namespace Sys2Proof

/-- One data byte of a CAN frame. -/
abbrev Byte := BitVec 8

/-- The data word W of R199: data bytes 0..5, byte 0 least significant. -/
abbrev DataWord := BitVec 48

/-- An 11-bit CAN identifier (section 0.4.3). -/
abbrev Ident := BitVec 11

/-- The 24-bit value field of a request or reply, and one STATUS line (R202). -/
abbrev Value24 := BitVec 24

/-- A 4-bit code or rolling counter. -/
abbrev Nibble := BitVec 4

end Sys2Proof
end

