-- ==== Sys2Proof/Syntax.lean ====
section
/-! DEFINITION. The commands of the block: one constructor of `Instr` for each row of spec/opcode_table.json, with
the operands the manual gives the step, and the names the operands are made of. -/

namespace Sys2Proof

/-- The two ports (section 0.1). -/
inductive Port where
  | portU | portD
  deriving DecidableEq, Repr

/-- The port at the other side of the bridge. -/
def Port.other : Port → Port
  | .portU => .portD
  | .portD => .portU

/-- The six stream roles (R26). -/
inductive Role where
  | demand | battery | inverter | engine | clutch | brake
  deriving DecidableEq, Repr

/-- The two management requesters (R181). -/
inductive Requester where
  | supervisor | service
  deriving DecidableEq, Repr

/-- The requester that is not this one. -/
def Requester.other : Requester → Requester
  | .supervisor => .service
  | .service => .supervisor

/-- The two split banks (R2). -/
inductive BankName where
  | bankA | bankB
  deriving DecidableEq, Repr

/-- The bank that is not this one. -/
def BankName.other : BankName → BankName
  | .bankA => .bankB
  | .bankB => .bankA

/-- How management names a bank (R2, R201): the active one or the shadow. -/
inductive BankSel where
  | active | shadow
  deriving DecidableEq, Repr

/-- The eight tables of a split bank (R2). -/
inductive BankTable where
  | param | speedBp | demandBp | thresh | map0 | map1 | map2 | map3
  deriving DecidableEq, Repr

/-- The three live tables (section 1, R169, R143, R134). -/
inductive LiveTable where
  | forward | watch | faultMap
  deriving DecidableEq, Repr

/-- A table as a request names it (R181). -/
inductive TableName where
  | bank (t : BankTable)
  | live (t : LiveTable)
  deriving DecidableEq, Repr

/-- One entry of a bank or live table, as an upset strikes it (R2, R7). -/
inductive EntryRef where
  | bank (b : BankName) (t : BankTable) (i : Nat)
  | live (t : LiveTable) (i : Nat)
  deriving DecidableEq, Repr

/-- A classic CAN data frame: identifier and data bytes, whose number is the frame's length (section 0.4.3, R173). -/
structure Frame where
  id : Ident
  data : List Byte
  deriving DecidableEq, Repr

/-- The two kinds of frame a port acknowledges and does not classify (R173). -/
inductive NonDataKind where
  | extended29 | remote
  deriving DecidableEq, Repr

/-- The two kinds of error an attempt may end in that R176 tells apart. -/
inductive TxErrorKind where
  | missingAck | other
  deriving DecidableEq, Repr

/-- The fields a request's reply echoes although its kind does not read them (R183, R202). -/
structure Echo where
  table : Nibble
  field : Nibble
  index : Byte
  deriving DecidableEq, Repr

/-- The commands of the block, one constructor for each row of spec/opcode_table.json. A management command carries
its requester, its tag and the fields its kind reads or its reply echoes (R181, R183). -/
inductive Instr where
  | powerOnReset
  | pinReset
  | resetEnd (strapId : BitVec 2) (strapRate : Bool)
  | upset (e : EntryRef)
  | frameReceived (p : Port) (f : Frame)
  | nonDataFrameDiscard (p : Port) (k : NonDataKind)
  | receiveError (p : Port)
  | deadlineExpiry (r : Role)
  | holdExpiry (r : Role)
  | fillInExpiry
  | splitCycleStart
  | splitCycleCompletion
  | crankTimerExpiry
  | syncTimerExpiry
  | clutchTimerExpiry
  | retryTimerExpiry
  | minRunExpiry
  | walkEntryTest
  | walkCompletion
  | copyEntryCarry
  | copyCompletion
  | transmitStart (p : Port)
  | transmissionCompletion (p : Port)
  | arbitrationLost (p : Port)
  | transmitError (p : Port) (k : TxErrorKind)
  | busOffRecovery (p : Port)
  | editWindowExpiry (q : Requester)
  | malformedRequest (q : Requester) (bytes : List Byte)
  | read (q : Requester) (tag : Byte) (bank : BankSel) (table : TableName) (index : Byte) (field : Nibble)
  | readHold (q : Requester) (tag : Byte) (table : TableName) (index : Byte) (field : Nibble)
  | write (q : Requester) (tag : Byte) (bank : BankSel) (table : TableName) (index : Byte) (field : Nibble)
      (value : Value24)
  | entryReset (q : Requester) (tag : Byte) (bank : BankSel) (table : TableName) (index : Byte) (value : Value24)
  | release (q : Requester) (tag : Byte) (echo : Echo)
  | copy (q : Requester) (tag : Byte) (echo : Echo)
  | commit (q : Requester) (tag : Byte) (echo : Echo)
  | cancel (q : Requester) (tag : Byte) (echo : Echo)
  | ackFault (q : Requester) (tag : Byte) (table : Nibble) (index : Byte)
  | ackWatch (q : Requester) (tag : Byte) (table : Nibble) (index : Byte)
  | ackCell (q : Requester) (tag : Byte) (table : Nibble) (index : Byte)
  | ackFlags (q : Requester) (tag : Byte) (table : Nibble) (index : Byte)
  | statusCapture (q : Requester) (tag : Byte) (table : Nibble)
  | statusRead (q : Requester) (tag : Byte) (table : Nibble) (page : Nibble) (line : Byte)
  | elevenRecessiveBitsSeen (p : Port)
  deriving DecidableEq, Repr

end Sys2Proof
end

