-- ==== Sys2Proof/Decode.lean ====
section
/-! DEFINITION. The block has no instruction encoding: no row of spec/opcode_table.json gives a command any bits
("fields" is empty in all 43 rows), so no word spells a command. The bit layouts the manual does give, those of
frames, requests and replies, are read and written in Machine/Operands.lean. -/

namespace Sys2Proof

/-- The command a word of `nbits` bits spells by the table's bits: none, since no row gives bits. -/
def decodeTableWord (_nbits _w : Nat) : Option Instr := none

end Sys2Proof
end

