-- ==== Sys2Proof/Config.lean ====
section
/-! DEFINITION. The free values of the model: constants with no body, so that no proof can see what they are.
Each stands for a choice the manual leaves open ("taken in either order", or content that is undetermined).
The index is `State.freeIx`, a counter that the model advances each time it consults one of them. -/

namespace Sys2Proof.Config

/-- R45, R138 (DEDUCED, safe, log entry 6): whether, at one ENGINE acceptance, the Regime Controller takes it before
the Fault Unit takes the engine fault flag. Consulted only when the two orders give different CLUTCH_LOCK readings. -/
opaque regimeBeforeFault : Nat → Bool

/-- R147 (DEDUCED, safe, log entry 6): whether, at one ENGINE acceptance, the Watch Unit takes it before the Regime
Controller. Consulted only when the Regime Controller changes the regime at that acceptance. -/
opaque watchBeforeRegime : Nat → Bool

/-- R7, R153 (DEDUCED, safe, log entry 7): whether an evaluating event is one of the undetermined quantity that a
failing watch entry holds; the first argument is the event, the second the entry's index. -/
opaque upsetWatchConcerned : Nat → Nat → Bool

end Sys2Proof.Config
end

