-- ==== Sys2Proof/Machine/Params.lean ====
section
/-! DEFINITION. The layout of the tables of the Table Store: the 54 parameters of R3 with their ranges and power-on
defaults, the sizes of the eight bank tables (R2), the walk order of R12 as a position 0..558, and the range of
every stored field of a bank entry (R3 to R6). -/

namespace Sys2Proof

/-- One row of the table of R3. -/
structure ParamRow where
  lo : Int
  hi : Int
  dflt : Int
  deriving DecidableEq, Repr

/-- PARAM entries 0..8 of R3: least value, greatest value, power-on default. -/
def paramRows0 : List ParamRow := [
  ⟨0, 600, 600⟩,  -- 0 dem_pos_cap
  ⟨0, 600, 300⟩,  -- 1 dem_neg_cap
  ⟨0, 400, 250⟩,  -- 2 eng_hi_cap
  ⟨-100, 0, -50⟩,  -- 3 eng_lo_cap
  ⟨0, 400, 200⟩,  -- 4 mot_hi_cap
  ⟨-400, 0, -200⟩,  -- 5 mot_lo_cap
  ⟨700, 1000, 920⟩,  -- 6 eta_mot
  ⟨700, 1000, 900⟩,  -- 7 eta_gen
  ⟨0, 2000, 50⟩]  -- 8 p_dis_fb

/-- PARAM entries 9..17 of R3: least value, greatest value, power-on default. -/
def paramRows1 : List ParamRow := [
  ⟨0, 2000, 0⟩,  -- 9 p_chg_fb
  ⟨1, 100, 10⟩,  -- 10 eng_step
  ⟨0, 1000, 0⟩,  -- 11 fallback_share
  ⟨0, 50, 20⟩,  -- 12 band_hyst
  ⟨2, 12, 2⟩,  -- 13 n_speed_bp
  ⟨2, 10, 2⟩,  -- 14 n_demand_bp
  ⟨1, 1000, 50⟩,  -- 15 e_on
  ⟨0, 999, 20⟩,  -- 16 e_off
  ⟨1, 50, 5⟩]  -- 17 on_dwell

/-- PARAM entries 18..26 of R3: least value, greatest value, power-on default. -/
def paramRows2 : List ParamRow := [
  ⟨1, 1000, 100⟩,  -- 18 off_dwell
  ⟨0, 1000, 250⟩,  -- 19 soc_floor
  ⟨0, 1000, 120⟩,  -- 20 soc_zone_floor
  ⟨600, 3000, 900⟩,  -- 21 lock_speed_min
  ⟨500, 2900, 850⟩,  -- 22 unlock_speed
  ⟨300, 1500, 700⟩,  -- 23 idle_confirm
  ⟨0, 200, 90⟩,  -- 24 crank_reserve
  ⟨200, 5000, 1200⟩,  -- 25 crank_timeout
  ⟨1, 5, 3⟩]  -- 26 crank_attempts_max

/-- PARAM entries 27..35 of R3: least value, greatest value, power-on default. -/
def paramRows3 : List ParamRow := [
  ⟨0, 10000, 2000⟩,  -- 27 retry_wait
  ⟨10, 300, 50⟩,  -- 28 sync_window
  ⟨1, 20, 3⟩,  -- 29 sync_confirm
  ⟨100, 5000, 800⟩,  -- 30 sync_timeout
  ⟨0, 30000, 4000⟩,  -- 31 min_run
  ⟨50, 2000, 300⟩,  -- 32 clutch_timeout
  ⟨0, 600, 400⟩,  -- 33 clutch_lock_capacity
  ⟨5, 1000, 30⟩,  -- 34 demand_deadline
  ⟨0, 2000, 100⟩]  -- 35 demand_hold

/-- PARAM entries 36..44 of R3: least value, greatest value, power-on default. -/
def paramRows4 : List ParamRow := [
  ⟨5, 1000, 60⟩,  -- 36 battery_deadline
  ⟨0, 2000, 500⟩,  -- 37 battery_hold
  ⟨5, 1000, 30⟩,  -- 38 inverter_deadline
  ⟨0, 2000, 50⟩,  -- 39 inverter_hold
  ⟨5, 1000, 30⟩,  -- 40 engine_deadline
  ⟨0, 2000, 50⟩,  -- 41 engine_hold
  ⟨5, 1000, 60⟩,  -- 42 clutch_deadline
  ⟨0, 2000, 100⟩,  -- 43 clutch_hold
  ⟨5, 1000, 60⟩]  -- 44 brake_deadline

/-- PARAM entries 45..53 of R3: least value, greatest value, power-on default. -/
def paramRows5 : List ParamRow := [
  ⟨0, 2000, 100⟩,  -- 45 brake_hold
  ⟨5, 50, 10⟩,  -- 46 fill_period
  ⟨0, 2047, 288⟩,  -- 47 id_engine_cmd
  ⟨0, 2047, 289⟩,  -- 48 id_inverter_cmd
  ⟨0, 2047, 290⟩,  -- 49 id_clutch_cmd
  ⟨0, 2047, 424⟩,  -- 50 id_brake_share
  ⟨0, 2047, 1520⟩,  -- 51 id_split_report
  ⟨0, 2047, 1521⟩,  -- 52 id_watch_notice
  ⟨0, 1, 0⟩]  -- 53 report_enable
/-- The whole table of R3, in index order. -/
def paramRows : List ParamRow :=
  paramRows0 ++ paramRows1 ++ paramRows2 ++ paramRows3 ++ paramRows4 ++ paramRows5

/-- Number of entries of each bank table (R2). -/
def BankTable.size : BankTable → Nat
  | .param => 54
  | .speedBp => 12
  | .demandBp => 10
  | .thresh => 3
  | .map0 | .map1 | .map2 | .map3 => 120

/-- Position in the walk order of R12 of a table's entry 0. -/
def BankTable.base : BankTable → Nat
  | .param => 0
  | .speedBp => 54
  | .demandBp => 66
  | .thresh => 76
  | .map0 => 79
  | .map1 => 199
  | .map2 => 319
  | .map3 => 439

/-- Number of stored fields of an entry of the table (R2). -/
def BankTable.fields : BankTable → Nat
  | .param | .speedBp | .demandBp | .thresh => 1
  | .map0 | .map1 | .map2 | .map3 => 2

/-- Number of entries of each live table (R169, R143, R134). -/
def LiveTable.size : LiveTable → Nat
  | .forward => 48
  | .watch => 16
  | .faultMap => 12

/-- The table and index that stand at a position of the walk order (R12). -/
def tableAt (p : Nat) : BankTable × Nat :=
  if p < 54 then (.param, p)
  else if p < 66 then (.speedBp, p - 54)
  else if p < 76 then (.demandBp, p - 66)
  else if p < 79 then (.thresh, p - 76)
  else if p < 199 then (.map0, p - 79)
  else if p < 319 then (.map1, p - 199)
  else if p < 439 then (.map2, p - 319)
  else (.map3, p - 439)

/-- Range of a stored field of a bank entry: R3 for PARAM, R4 for the breakpoints, R5 for the thresholds, R6 for
the cells (field 1 the share e, field 2 the offset c). -/
def fieldRange (t : BankTable) (i field : Nat) : Int × Int :=
  match t with
  | .param => let r := paramRows.getD i ⟨0, 0, 0⟩; (r.lo, r.hi)
  | .speedBp => (0, 7000)
  | .demandBp => (0, 600)
  | .thresh => (1, 999)
  | .map0 | .map1 | .map2 | .map3 => if field = 1 then (0, 1000) else (0, 150)

/-- The 79 power-on defaults in walk order: R3, then the breakpoints 0 and 7000, 0 and 600 with every unused entry 0
(R4), then t1 = 300, t2 = 500, t3 = 700 (R5). -/
def defaultValues : List Int :=
  paramRows.map ParamRow.dflt ++ ([0, 7000] ++ List.replicate 10 0) ++ ([0, 600] ++ List.replicate 8 0) ++
    [300, 500, 700]

end Sys2Proof
end

