-- ==== Sys2Proof/Machine/Blocks.lean ====
section
/-! DEFINITION. The state of each block of the part, one structure a block (section 0.2), and the enumerated values
their fields take. Torques, speeds, powers, shares and temperatures are whole numbers in the manual's units (section
0.4.1) and are held as `Int`; counts and positions as `Nat`; what travels as bits as bit vectors. -/

namespace Sys2Proof.Machine

/-! ### Shared shapes -/

/-- One value for each stream role. -/
structure ByRole (α : Type) where
  demand : α
  battery : α
  inverter : α
  engine : α
  clutch : α
  brake : α
  deriving DecidableEq, Repr

/-- The value of a role. -/
def ByRole.get {α : Type} (x : ByRole α) : Role → α
  | .demand => x.demand
  | .battery => x.battery
  | .inverter => x.inverter
  | .engine => x.engine
  | .clutch => x.clutch
  | .brake => x.brake

/-- Replaces the value of a role. -/
def ByRole.set {α : Type} (x : ByRole α) (r : Role) (v : α) : ByRole α :=
  match r with
  | .demand => { x with demand := v }
  | .battery => { x with battery := v }
  | .inverter => { x with inverter := v }
  | .engine => { x with engine := v }
  | .clutch => { x with clutch := v }
  | .brake => { x with brake := v }

/-- One value for each port. -/
structure ByPort (α : Type) where
  u : α
  d : α
  deriving DecidableEq, Repr

/-- The value of a port. -/
def ByPort.get {α : Type} (x : ByPort α) : Port → α
  | .portU => x.u
  | .portD => x.d

/-- Replaces the value of a port. -/
def ByPort.set {α : Type} (x : ByPort α) (p : Port) (v : α) : ByPort α :=
  match p with
  | .portU => { x with u := v }
  | .portD => { x with d := v }

/-- One value for each requester. -/
structure ByRequester (α : Type) where
  supervisor : α
  service : α
  deriving DecidableEq, Repr

/-- The value of a requester. -/
def ByRequester.get {α : Type} (x : ByRequester α) : Requester → α
  | .supervisor => x.supervisor
  | .service => x.service

/-- Replaces the value of a requester. -/
def ByRequester.set {α : Type} (x : ByRequester α) (q : Requester) (v : α) : ByRequester α :=
  match q with
  | .supervisor => { x with supervisor := v }
  | .service => { x with service := v }

/-- A timer (R1): stopped, or running with the period in ms it was started with (R20). Time itself passes outside
the model: a timer runs out when its expiry command is taken (DESIGN CHOICE, safe, log entry 3). -/
inductive Timer where
  | stopped
  | running (period : Nat)
  deriving DecidableEq, Repr

/-- Whether the timer runs. -/
def Timer.isRunning : Timer → Bool
  | .stopped => false
  | .running _ => true

/-! ### Regimes (chapter 5) -/

/-- The nine regimes (R93). -/
inductive Regime where
  | standby | electric | crank | sync | hybrid | release | limpEngine | limpMotor | safe
  deriving DecidableEq, Repr

/-- The regime with its phase, where it has phases: the fourteen rows of R93. -/
inductive Mode where
  | standby | electric | crankStarter | crankClutch | syncIdle | syncMatch | hybridLocking | hybridShared
  | releaseRampDown | releaseOpening | limpEngineStart | limpEngineDrive | limpMotor | safe
  deriving DecidableEq, Repr

/-- The regime of a regime and phase (R93). -/
def Mode.regime : Mode → Regime
  | .standby => .standby
  | .electric => .electric
  | .crankStarter | .crankClutch => .crank
  | .syncIdle | .syncMatch => .sync
  | .hybridLocking | .hybridShared => .hybrid
  | .releaseRampDown | .releaseOpening => .release
  | .limpEngineStart | .limpEngineDrive => .limpEngine
  | .limpMotor => .limpMotor
  | .safe => .safe

/-- Min-run state (R103). -/
inductive MinRun where
  | idle
  | running (period : Nat)
  | expired
  deriving DecidableEq, Repr

/-- Regime entered when RELEASE OPENING completes (R94). -/
inductive Destination where
  | electric | standby
  deriving DecidableEq, Repr

/-- State of the Regime Controller (R94) and the SAFE_N line it drives (R125). -/
structure RegimeState where
  mode : Mode
  attempts : Nat
  want : Nat
  unwant : Nat
  matchCount : Nat
  crankT : Timer
  syncT : Timer
  clutchT : Timer
  retryT : Timer
  minRun : MinRun
  dest : Destination
  safeNLow : Bool
  deriving DecidableEq, Repr

/-! ### Table Store (chapter 1) -/

/-- An entry with its check code (R7): passing its check, with its stored fields, or failing it, its content
undetermined and read by no one (DEDUCED, safe, log entry 5). -/
inductive Checked (α : Type) where
  | passing (fields : α)
  | failing
  deriving DecidableEq, Repr

/-- Stored fields 1 and 2 of a bank entry (R2); a table with one stored field keeps the second at 0. -/
structure BankFields where
  f1 : Int
  f2 : Int
  deriving DecidableEq, Repr

/-- A split bank: its 559 entries in the walk order of R12. -/
structure Bank where
  entries : Vector (Checked BankFields) 559
  deriving DecidableEq, Repr

/-- The working parameters (R20): the first field of the 79 latched entries, in walk order. -/
structure WorkingParams where
  values : Vector Int 79
  deriving DecidableEq, Repr

/-- Forwarding actions (R169). -/
inductive FwdAction where
  | pass | consume | consumePass | drop
  deriving DecidableEq, Repr

/-- A forwarding lookup entry (R169). -/
structure FwdEntry where
  valid : Bool
  port : Port
  id : Ident
  action : FwdAction
  role : Option Role
  deriving DecidableEq, Repr

/-- A port's default action (R170). -/
inductive DefaultAction where
  | pass | drop
  deriving DecidableEq, Repr

/-- Forwarding entry 47, the port defaults record (R170). -/
structure PortDefaults where
  u : DefaultAction
  d : DefaultAction
  deriving DecidableEq, Repr

/-- Watch quantities (R144). -/
inductive Quantity where
  | soc | shaftSpeed | battTemp | motorTemp | coolantTemp | demand | unmet
  deriving DecidableEq, Repr

/-- Watch comparisons (R143). -/
inductive Comparison where
  | above | below
  deriving DecidableEq, Repr

/-- Watch actions (R151). -/
inductive WatchAction where
  | notify | derateMotor | derateEngine | engineHold | engineInhibit
  deriving DecidableEq, Repr

/-- A watch entry (R143). The regime mask is a set of regimes, one bit each by the codes of R201. -/
structure WatchEntry where
  enable : Bool
  quantity : Quantity
  comparison : Comparison
  threshold : Int
  hysteresis : Int
  mask : BitVec 9
  action : WatchAction
  actionValue : Int
  deriving DecidableEq, Repr

/-- A forced set (R134). -/
structure ForcedSet where
  engine : Bool
  motorDrive : Bool
  motorRegen : Bool
  clutchLock : Bool
  deriving DecidableEq, Repr

/-- Fault consequences (R134); also the combined consequence of R96. -/
inductive Consequence where
  | none | limpEngine | limpMotor | safe
  deriving DecidableEq, Repr

/-- Clear modes (R134). -/
inductive ClearMode where
  | auto | manual
  deriving DecidableEq, Repr

/-- A fault-map entry (R134). -/
structure FaultEntry where
  forced : ForcedSet
  consequence : Consequence
  clearMode : ClearMode
  deriving DecidableEq, Repr

/-- Reasons of a failed walk (R12, R201). -/
inductive WalkReason where
  | check | range | order | cross
  deriving DecidableEq, Repr

/-- The failure record of a walk (R11, R12). -/
structure Failure where
  table : BankTable
  index : Nat
  reason : WalkReason
  deriving DecidableEq, Repr

/-- The two kinds of walk (R11). -/
inductive WalkKind where
  | commit | pinReset
  deriving DecidableEq, Repr

/-- Walk state with what belongs to it (R11): while RUNNING, its kind, how many entries it has tested, and the first
field of the PARAM, breakpoint and threshold entries it has read so far, which its later tests use (R12, R13); when
FAILED, the failure record, which is empty in every other state. -/
inductive Walk where
  | idle
  | running (kind : WalkKind) (pos : Nat) (seen : List Int)
  | passed
  | failed (f : Failure)
  deriving DecidableEq, Repr

/-- The cell-fault record (R23). -/
structure CellFault where
  flag : Bool
  bank : BankName
  band : Nat
  speedIndex : Nat
  demandIndex : Nat
  deriving DecidableEq, Repr

/-- State of the Table Store (R24, R25). `copy` is the position of the entry the running copy carries next; the
copy-running flag is set exactly while there is one (R15, R16). -/
structure TableStore where
  bankA : Bank
  bankB : Bank
  selector : BankName
  verifiedA : Bool
  verifiedB : Bool
  walk : Walk
  walkedBank : BankName
  copy : Option Nat
  swapPending : Bool
  wp : WorkingParams
  cellFault : CellFault
  forward : Vector (Checked FwdEntry) 47
  portDefaults : Checked PortDefaults
  watch : Vector (Checked WatchEntry) 16
  faultMap : Vector (Checked FaultEntry) 12
  deriving DecidableEq, Repr

/-! ### Signal Intake (chapter 2) -/

/-- Freshness of a stream (R26). -/
inductive StreamState where
  | never | fresh | held | lapsed
  deriving DecidableEq, Repr

/-- Last discard reason (R26). -/
inductive DiscardReason where
  | none | length | check | repeated
  deriving DecidableEq, Repr

/-- What the stream table holds for every role beside its stored values (R26). -/
structure StreamMeta where
  state : StreamState
  counter : Option Nibble
  deadline : Timer
  hold : Timer
  discard : DiscardReason
  lapse : Bool
  deriving DecidableEq, Repr

/-- Stored values of DEMAND (R32). -/
structure DemandVals where
  torque : Int
  ready : Bool
  zone : Bool
  deriving DecidableEq, Repr

/-- Stored values of BATTERY (R33). -/
structure BatteryVals where
  soc : Int
  pDis : Int
  pChg : Int
  temp : Int
  contactorClosed : Bool
  deriving DecidableEq, Repr

/-- Stored values of INVERTER (R34). -/
structure InverterVals where
  speed : Int
  motoring : Int
  generating : Int
  temp : Int
  fault : Bool
  deriving DecidableEq, Repr

/-- Stored values of ENGINE (R35); the drag torque is stored as a negative value. -/
structure EngineVals where
  speed : Int
  available : Int
  drag : Int
  temp : Int
  running : Bool
  fault : Bool
  deriving DecidableEq, Repr

/-- Clutch state reports (R36). -/
inductive ClutchState where
  | isOpen | slipping | locked
  deriving DecidableEq, Repr

/-- Stored values of CLUTCH (R36). -/
structure ClutchVals where
  state : ClutchState
  fault : Bool
  deriving DecidableEq, Repr

/-- Stored value of BRAKE (R36). -/
structure BrakeVals where
  regen : Int
  deriving DecidableEq, Repr

/-- State of Signal Intake (R26). -/
structure Intake where
  streams : ByRole StreamMeta
  fillIn : Timer
  demand : DemandVals
  battery : BatteryVals
  inverter : InverterVals
  engine : EngineVals
  clutch : ClutchVals
  brake : BrakeVals
  deriving DecidableEq, Repr

/-! ### Limit Vector Unit (chapter 3) -/

/-- A limit record (R49): a value or nothing in each of the four lanes. -/
structure LimitRecord where
  engHi : Option Int
  engLo : Option Int
  motHi : Option Int
  motLo : Option Int
  deriving DecidableEq, Repr

/-- The combined limit vector (R48, R59). -/
structure Lanes where
  engHi : Int
  engLo : Int
  motHi : Int
  motLo : Int
  deriving DecidableEq, Repr

/-- State of the Limit Vector Unit (R49): the seven records and the last combined vector. -/
structure Limits where
  static : LimitRecord
  engine : LimitRecord
  inverter : LimitRecord
  battery : LimitRecord
  brake : LimitRecord
  watch : LimitRecord
  fault : LimitRecord
  combined : Lanes
  deriving DecidableEq, Repr

/-! ### Split Engine (chapter 4) -/

/-- Kind of a split cycle (R65). -/
inductive CycleKind where
  | demand | fillIn
  deriving DecidableEq, Repr

/-- The binding set (R83). -/
structure Binding where
  engHi : Bool
  engLo : Bool
  motHi : Bool
  motLo : Bool
  engSlew : Bool
  deriving DecidableEq, Repr

/-- A split record (R91). -/
structure SplitRecord where
  kind : CycleKind
  count : BitVec 16
  d : Int
  speed : Int
  soc : Int
  band : Nat
  e : Int
  c : Int
  engRaw : Int
  lanes : Lanes
  engineCmd : Int
  motorCmd : Int
  engineShare : Int
  driverShare : Int
  u : Int
  binding : Binding
  mode : Mode
  wanted : Bool
  deriving DecidableEq, Repr

/-- The record history (R66), newest first. -/
structure History where
  newest : SplitRecord
  middle : SplitRecord
  oldest : SplitRecord
  deriving DecidableEq, Repr

/-- What a cycle under way fixed at its start (R65). `recompute` is the band recompute mark as it stood then, and
`remarked` tells that a latch set the mark while the cycle was under way (R70; DEDUCED, safe, log entry 9). -/
structure CycleInputs where
  kind : CycleKind
  mode : Mode
  wp : WorkingParams
  bank : BankName
  lanes : Lanes
  torque : Int
  ready : Bool
  zone : Bool
  soc : Int
  speed : Int
  inhibit : Bool
  hold : Bool
  recompute : Bool
  remarked : Bool
  deriving DecidableEq, Repr

/-- State of the Split Engine: the split context (R66), the cycle under way and the start that waits to be taken
(R65). A start always waits here until SPLIT_CYCLE_START takes it (DEDUCED, safe, log entry 4). `started` tells that a
cycle has started since the last reset, the first of which is fixed in STANDBY (R127, R168). -/
structure SplitState where
  band : Nat
  recompute : Bool
  prev : Int
  prevWanted : Bool
  count : BitVec 16
  history : History
  cycle : Option CycleInputs
  waiting : Option CycleKind
  started : Bool
  deriving DecidableEq, Repr

/-! ### Fault Unit (chapter 6) -/

/-- Fault states (R128). -/
inductive FaultState where
  | clear | active | awaitAck
  deriving DecidableEq, Repr

/-- A fault source (R128): its state and its condition. `timeout` is the timeout part of the CLUTCH_FAULT condition;
every other source uses `cond` alone. -/
structure FaultSource where
  state : FaultState
  cond : Bool
  timeout : Bool
  deriving DecidableEq, Repr

/-- The twelve sources by index (R128). -/
structure FaultUnit where
  sources : Vector FaultSource 12
  deriving DecidableEq, Repr

/-! ### Watch Unit (chapter 7) -/

/-- Watch states (R146). -/
inductive WatchState where
  | disabled | waiting | idle | matched
  deriving DecidableEq, Repr

/-- State and fired flag of a watch (R146). -/
structure WatchCell where
  state : WatchState
  fired : Bool
  deriving DecidableEq, Repr

/-- A notice (R149). -/
structure Notice where
  entry : Fin 16
  quantity : Quantity
  comparison : Comparison
  value : Int
  threshold : Int
  mode : Mode
  count : BitVec 16
  deriving DecidableEq, Repr

/-- A notice in the queue, with the identifier it took when it joined (R149; DEDUCED, unsafe, log entry 20). -/
structure QueuedNotice where
  id : Ident
  notice : Notice
  deriving DecidableEq, Repr

/-- State of the Watch Unit (R146). -/
structure WatchUnit where
  cells : Vector WatchCell 16
  queue : List QueuedNotice
  overflow : Bool
  deriving DecidableEq, Repr

/-! ### Port Interfaces (chapters 8 and 9) -/

/-- ENGINE_CMD modes (R201). -/
inductive EngineMode where
  | off | starter | idle | speed | torque
  deriving DecidableEq, Repr

/-- INVERTER_CMD modes (R201). -/
inductive InverterMode where
  | standby | torque
  deriving DecidableEq, Repr

/-- CLUTCH_CMD targets (R201). -/
inductive ClutchTarget where
  | isOpen | slip | lock
  deriving DecidableEq, Repr

/-- Status codes of a reply (R183). -/
inductive Status where
  | ok | busy | held | holdPending | checkFailed | wrongRegime | wrongBank | badIndex | badField | badValue
  | conditionPresent | badRequest
  deriving DecidableEq, Repr

/-- What a frame the part originates says (R200, R202). -/
inductive Payload where
  | engineCmd (mode : EngineMode) (torque speed : Int)
  | inverterCmd (mode : InverterMode) (torque : Int)
  | clutchCmd (target : ClutchTarget) (capacity : Int)
  | brakeShare (friction regen : Int)
  | splitReport (d engine motor u : Int) (binding : Binding) (mode : Mode)
  | notice (n : Notice)
  | reply (tag : Byte) (table field : Nibble) (index : Byte) (value : Value24) (status : Status)
  deriving DecidableEq, Repr

/-- A content as its filler places it, with the identifier it was given (R157). -/
structure Content where
  id : Ident
  payload : Payload
  deriving DecidableEq, Repr

/-- A slot and its four states (R158). -/
inductive Slot where
  | empty
  | waiting (c : Content)
  | sending (c : Content)
  | sendingNext (c next : Content)
  deriving DecidableEq, Repr

/-- The seven slots of the two ports (R157). -/
inductive SlotName where
  | engineCmd | inverterCmd | clutchCmd | brakeShare | splitReport | replySupervisor | replyService
  deriving DecidableEq, Repr

/-- The contents of the seven slots. -/
structure Slots where
  engineCmd : Slot
  inverterCmd : Slot
  clutchCmd : Slot
  brakeShare : Slot
  splitReport : Slot
  replySupervisor : Slot
  replyService : Slot
  deriving DecidableEq, Repr

/-- The eight frame kinds the part originates (R161). -/
inductive FrameKind where
  | slot (n : SlotName)
  | notice
  deriving DecidableEq, Repr

/-- The counter store (R161). -/
structure Counters where
  engineCmd : Nibble
  inverterCmd : Nibble
  clutchCmd : Nibble
  brakeShare : Nibble
  splitReport : Nibble
  replySupervisor : Nibble
  replyService : Nibble
  notice : Nibble
  deriving DecidableEq, Repr

/-- Error states of a port (R177). -/
inductive ErrorState where
  | errorActive | errorPassive | busOff
  deriving DecidableEq, Repr

/-- Where the frame on the bus came from: a slot, the notice queue, or the port's forward queue (R157). -/
inductive Holder where
  | slot (n : SlotName)
  | notice
  | forward
  deriving DecidableEq, Repr

/-- The attempt in progress at a port (R163): its holder and the frame on the bus. -/
structure Attempt where
  holder : Holder
  frame : Frame
  deriving DecidableEq, Repr

/-- Error confinement state of a port (R176, R177, R178) and its attempt in progress (R163). -/
structure PortState where
  error : ErrorState
  txCount : Nat
  rxCount : Nat
  recovery : Nat
  attempt : Option Attempt
  deriving DecidableEq, Repr

/-- State of the two Port Interfaces: error confinement, slots and counter store. -/
structure PortsState where
  port : ByPort PortState
  slots : Slots
  counters : Counters
  deriving DecidableEq, Repr

/-- A forward queue and its overflow flag (R175). -/
structure ForwardQueue where
  frames : List Frame
  overflow : Bool
  deriving DecidableEq, Repr

/-! ### Management Unit (chapter 10) -/

/-- The live entry a hold names (R191). -/
structure HeldEntry where
  table : LiveTable
  index : Nat
  deriving DecidableEq, Repr

/-- The eight pages of a status snapshot, each a list of 24-bit lines (R195, R196). -/
structure Snapshot where
  pages : List (List Value24)
  deriving DecidableEq, Repr

/-- What the Management Unit holds for one requester (R191, R182, R195). -/
structure RequesterState where
  hold : Option HeldEntry
  window : Timer
  overrun : Bool
  snapshot : Option Snapshot
  deriving DecidableEq, Repr

/-! ### Resets (section 0.4.5, R203) -/

/-- The two resets. -/
inductive ResetKind where
  | powerOn | pin
  deriving DecidableEq, Repr

end Sys2Proof.Machine
end

