-- ==== Sys2Proof/Machine/Working.lean ====
section
/-! DEFINITION. The working parameters by name (R3, R4, R5, R20) and the two parameters of each stream (section 2.4). -/

namespace Sys2Proof.Machine

/-- `dem_pos_cap`, PARAM 0 (R3). -/
def WorkingParams.demPosCap (w : WorkingParams) : Int := w.values[0]

/-- `dem_neg_cap`, PARAM 1 (R3). -/
def WorkingParams.demNegCap (w : WorkingParams) : Int := w.values[1]

/-- `eng_hi_cap`, PARAM 2 (R3). -/
def WorkingParams.engHiCap (w : WorkingParams) : Int := w.values[2]

/-- `eng_lo_cap`, PARAM 3 (R3). -/
def WorkingParams.engLoCap (w : WorkingParams) : Int := w.values[3]

/-- `mot_hi_cap`, PARAM 4 (R3). -/
def WorkingParams.motHiCap (w : WorkingParams) : Int := w.values[4]

/-- `mot_lo_cap`, PARAM 5 (R3). -/
def WorkingParams.motLoCap (w : WorkingParams) : Int := w.values[5]

/-- `eta_mot`, PARAM 6 (R3). -/
def WorkingParams.etaMot (w : WorkingParams) : Int := w.values[6]

/-- `eta_gen`, PARAM 7 (R3). -/
def WorkingParams.etaGen (w : WorkingParams) : Int := w.values[7]

/-- `p_dis_fb`, PARAM 8 (R3). -/
def WorkingParams.pDisFb (w : WorkingParams) : Int := w.values[8]

/-- `p_chg_fb`, PARAM 9 (R3). -/
def WorkingParams.pChgFb (w : WorkingParams) : Int := w.values[9]

/-- `eng_step`, PARAM 10 (R3). -/
def WorkingParams.engStep (w : WorkingParams) : Int := w.values[10]

/-- `fallback_share`, PARAM 11 (R3). -/
def WorkingParams.fallbackShare (w : WorkingParams) : Int := w.values[11]

/-- `band_hyst`, PARAM 12 (R3). -/
def WorkingParams.bandHyst (w : WorkingParams) : Int := w.values[12]

/-- `n_speed_bp`, PARAM 13 (R3). -/
def WorkingParams.nSpeedBp (w : WorkingParams) : Int := w.values[13]

/-- `n_demand_bp`, PARAM 14 (R3). -/
def WorkingParams.nDemandBp (w : WorkingParams) : Int := w.values[14]

/-- `e_on`, PARAM 15 (R3). -/
def WorkingParams.eOn (w : WorkingParams) : Int := w.values[15]

/-- `e_off`, PARAM 16 (R3). -/
def WorkingParams.eOff (w : WorkingParams) : Int := w.values[16]

/-- `on_dwell`, PARAM 17 (R3). -/
def WorkingParams.onDwell (w : WorkingParams) : Int := w.values[17]

/-- `off_dwell`, PARAM 18 (R3). -/
def WorkingParams.offDwell (w : WorkingParams) : Int := w.values[18]

/-- `soc_floor`, PARAM 19 (R3). -/
def WorkingParams.socFloor (w : WorkingParams) : Int := w.values[19]

/-- `soc_zone_floor`, PARAM 20 (R3). -/
def WorkingParams.socZoneFloor (w : WorkingParams) : Int := w.values[20]

/-- `lock_speed_min`, PARAM 21 (R3). -/
def WorkingParams.lockSpeedMin (w : WorkingParams) : Int := w.values[21]

/-- `unlock_speed`, PARAM 22 (R3). -/
def WorkingParams.unlockSpeed (w : WorkingParams) : Int := w.values[22]

/-- `idle_confirm`, PARAM 23 (R3). -/
def WorkingParams.idleConfirm (w : WorkingParams) : Int := w.values[23]

/-- `crank_reserve`, PARAM 24 (R3). -/
def WorkingParams.crankReserve (w : WorkingParams) : Int := w.values[24]

/-- `crank_timeout`, PARAM 25 (R3). -/
def WorkingParams.crankTimeout (w : WorkingParams) : Int := w.values[25]

/-- `crank_attempts_max`, PARAM 26 (R3). -/
def WorkingParams.crankAttemptsMax (w : WorkingParams) : Int := w.values[26]

/-- `retry_wait`, PARAM 27 (R3). -/
def WorkingParams.retryWait (w : WorkingParams) : Int := w.values[27]

/-- `sync_window`, PARAM 28 (R3). -/
def WorkingParams.syncWindow (w : WorkingParams) : Int := w.values[28]

/-- `sync_confirm`, PARAM 29 (R3). -/
def WorkingParams.syncConfirm (w : WorkingParams) : Int := w.values[29]

/-- `sync_timeout`, PARAM 30 (R3). -/
def WorkingParams.syncTimeout (w : WorkingParams) : Int := w.values[30]

/-- `min_run`, PARAM 31 (R3). -/
def WorkingParams.minRun (w : WorkingParams) : Int := w.values[31]

/-- `clutch_timeout`, PARAM 32 (R3). -/
def WorkingParams.clutchTimeout (w : WorkingParams) : Int := w.values[32]

/-- `clutch_lock_capacity`, PARAM 33 (R3). -/
def WorkingParams.clutchLockCapacity (w : WorkingParams) : Int := w.values[33]

/-- `demand_deadline`, PARAM 34 (R3). -/
def WorkingParams.demandDeadline (w : WorkingParams) : Int := w.values[34]

/-- `demand_hold`, PARAM 35 (R3). -/
def WorkingParams.demandHold (w : WorkingParams) : Int := w.values[35]

/-- `battery_deadline`, PARAM 36 (R3). -/
def WorkingParams.batteryDeadline (w : WorkingParams) : Int := w.values[36]

/-- `battery_hold`, PARAM 37 (R3). -/
def WorkingParams.batteryHold (w : WorkingParams) : Int := w.values[37]

/-- `inverter_deadline`, PARAM 38 (R3). -/
def WorkingParams.inverterDeadline (w : WorkingParams) : Int := w.values[38]

/-- `inverter_hold`, PARAM 39 (R3). -/
def WorkingParams.inverterHold (w : WorkingParams) : Int := w.values[39]

/-- `engine_deadline`, PARAM 40 (R3). -/
def WorkingParams.engineDeadline (w : WorkingParams) : Int := w.values[40]

/-- `engine_hold`, PARAM 41 (R3). -/
def WorkingParams.engineHold (w : WorkingParams) : Int := w.values[41]

/-- `clutch_deadline`, PARAM 42 (R3). -/
def WorkingParams.clutchDeadline (w : WorkingParams) : Int := w.values[42]

/-- `clutch_hold`, PARAM 43 (R3). -/
def WorkingParams.clutchHold (w : WorkingParams) : Int := w.values[43]

/-- `brake_deadline`, PARAM 44 (R3). -/
def WorkingParams.brakeDeadline (w : WorkingParams) : Int := w.values[44]

/-- `brake_hold`, PARAM 45 (R3). -/
def WorkingParams.brakeHold (w : WorkingParams) : Int := w.values[45]

/-- `fill_period`, PARAM 46 (R3). -/
def WorkingParams.fillPeriod (w : WorkingParams) : Int := w.values[46]

/-- `id_engine_cmd`, PARAM 47 (R3). -/
def WorkingParams.idEngineCmd (w : WorkingParams) : Int := w.values[47]

/-- `id_inverter_cmd`, PARAM 48 (R3). -/
def WorkingParams.idInverterCmd (w : WorkingParams) : Int := w.values[48]

/-- `id_clutch_cmd`, PARAM 49 (R3). -/
def WorkingParams.idClutchCmd (w : WorkingParams) : Int := w.values[49]

/-- `id_brake_share`, PARAM 50 (R3). -/
def WorkingParams.idBrakeShare (w : WorkingParams) : Int := w.values[50]

/-- `id_split_report`, PARAM 51 (R3). -/
def WorkingParams.idSplitReport (w : WorkingParams) : Int := w.values[51]

/-- `id_watch_notice`, PARAM 52 (R3). -/
def WorkingParams.idWatchNotice (w : WorkingParams) : Int := w.values[52]

/-- `report_enable`, PARAM 53 (R3). -/
def WorkingParams.reportEnable (w : WorkingParams) : Int := w.values[53]

/-- Working speed breakpoint `i` (R4), 0 beyond the list. -/
def WorkingParams.speedBp (w : WorkingParams) (i : Nat) : Int :=
  if i < 12 then w.values[54 + i]?.getD 0 else 0

/-- Working demand breakpoint `j` (R4), 0 beyond the list. -/
def WorkingParams.demandBp (w : WorkingParams) (j : Nat) : Int :=
  if j < 10 then w.values[66 + j]?.getD 0 else 0

/-- Working threshold t1 (R5). -/
def WorkingParams.t1 (w : WorkingParams) : Int := w.values[76]

/-- Working threshold t2 (R5). -/
def WorkingParams.t2 (w : WorkingParams) : Int := w.values[77]

/-- Working threshold t3 (R5). -/
def WorkingParams.t3 (w : WorkingParams) : Int := w.values[78]

/-- The deadline parameter of a role (section 2.4). -/
def WorkingParams.deadlineOf (w : WorkingParams) : Role → Int
  | .demand => w.demandDeadline
  | .battery => w.batteryDeadline
  | .inverter => w.inverterDeadline
  | .engine => w.engineDeadline
  | .clutch => w.clutchDeadline
  | .brake => w.brakeDeadline

/-- The hold parameter of a role (section 2.4). -/
def WorkingParams.holdOf (w : WorkingParams) : Role → Int
  | .demand => w.demandHold
  | .battery => w.batteryHold
  | .inverter => w.inverterHold
  | .engine => w.engineHold
  | .clutch => w.clutchHold
  | .brake => w.brakeHold

/-- A timer started with a period in ms (R1). -/
def Timer.start (period : Int) : Timer := .running period.toNat

/-- An identifier parameter as the 11-bit identifier it names (R3, indices 47 to 52). -/
def identOf (v : Int) : Ident := BitVec.ofInt 11 v

end Sys2Proof.Machine
end

