-- ==== Sys2Proof/Machine/Initial.lean ====
section
/-! DEFINITION. The values of each block's state after a reset, as the reset rule of its chapter gives them: R24, R25,
R47, R64, R92, R127, R142, R156, R168, R180 and R198; and the cleared and default entries of the tables. -/

namespace Sys2Proof.Machine

/-! ### Entries -/

/-- The cleared bank entry (R2, R8): every stored field 0. -/
def clearedBankFields : BankFields := ⟨0, 0⟩

/-- The cleared forwarding lookup entry (R169). -/
def clearedFwdEntry : FwdEntry := ⟨false, .portU, 0, .pass, none⟩

/-- The cleared port defaults record: PASS for both ports (R170). -/
def clearedPortDefaults : PortDefaults := ⟨.pass, .pass⟩

/-- The cleared watch entry (R143). -/
def clearedWatchEntry : WatchEntry := ⟨false, .soc, .above, 0, 0, 0, .notify, 0⟩

/-- The power-on default forwarding entries (R172). -/
def defaultFwdEntries : List FwdEntry :=
  [⟨true, .portU, 0x110, .consume, some .demand⟩,
   ⟨true, .portU, 0x180, .consumePass, some .battery⟩,
   ⟨true, .portU, 0x1A0, .consume, some .brake⟩,
   ⟨true, .portD, 0x210, .consumePass, some .inverter⟩,
   ⟨true, .portD, 0x220, .consumePass, some .engine⟩,
   ⟨true, .portD, 0x230, .consume, some .clutch⟩] ++ List.replicate 41 clearedFwdEntry

/-- A forced set from its four members. -/
def forcedOf (engine motorDrive motorRegen clutchLock : Bool) : ForcedSet :=
  ⟨engine, motorDrive, motorRegen, clutchLock⟩

/-- The power-on default fault map (R134), in source order. -/
def defaultFaultEntries : List FaultEntry :=
  [⟨forcedOf true true true true, .safe, .auto⟩,              -- 0 DEMAND_LAPSE
   ⟨forcedOf false false false false, .none, .auto⟩,          -- 1 BATTERY_LAPSE
   ⟨forcedOf false true true false, .limpEngine, .manual⟩,    -- 2 INVERTER_LAPSE
   ⟨forcedOf true false false false, .limpMotor, .manual⟩,    -- 3 ENGINE_LAPSE
   ⟨forcedOf false false false true, .limpMotor, .manual⟩,    -- 4 CLUTCH_LAPSE
   ⟨forcedOf false false true false, .none, .auto⟩] ++        -- 5 BRAKE_LAPSE
  [⟨forcedOf false true true false, .limpEngine, .manual⟩,    -- 6 INVERTER_FAULT
   ⟨forcedOf true false false false, .limpMotor, .manual⟩,    -- 7 ENGINE_FAULT
   ⟨forcedOf false true true false, .limpEngine, .auto⟩,      -- 8 CONTACTOR_OPEN
   ⟨forcedOf false false false true, .limpMotor, .manual⟩,    -- 9 CLUTCH_FAULT
   ⟨forcedOf false false false false, .limpMotor, .manual⟩,   -- 10 CRANK_FAIL
   ⟨forcedOf true true true true, .safe, .auto⟩]              -- 11 DOWNLINK_LOSS

/-- The power-on default entry of a source (R134). -/
def defaultFaultEntry (i : Fin 12) : FaultEntry :=
  defaultFaultEntries.getD i ⟨forcedOf false false false false, .none, .auto⟩

/-! ### Table Store -/

/-- The power-on default working parameters (R3, R4, R5). -/
def defaultWorking : WorkingParams := ⟨⟨defaultValues.toArray, rfl⟩⟩

/-- A bank after POWER_ON reset: every entry fails its check (R24; DEDUCED, safe, log entry 21). -/
def undeterminedBank : Bank := ⟨Vector.replicate 559 .failing⟩

/-- The empty cell-fault record: flag clear, fields 0 (R23). -/
def emptyCellFault : CellFault := ⟨false, .bankA, 0, 0, 0⟩

/-- The forwarding table after POWER_ON reset (R172). -/
def defaultForward : Vector (Checked FwdEntry) 47 :=
  ⟨(defaultFwdEntries.map Checked.passing).toArray, rfl⟩

/-- The fault map after POWER_ON reset (R134). -/
def defaultFaultMap : Vector (Checked FaultEntry) 12 :=
  ⟨(defaultFaultEntries.map Checked.passing).toArray, rfl⟩

/-- The Table Store after POWER_ON reset (R24). -/
def powerOnTables : TableStore where
  bankA := undeterminedBank
  bankB := undeterminedBank
  selector := .bankA
  verifiedA := false
  verifiedB := false
  walk := .idle
  walkedBank := .bankA
  copy := none
  swapPending := false
  wp := defaultWorking
  cellFault := emptyCellFault
  forward := defaultForward
  portDefaults := .passing clearedPortDefaults
  watch := Vector.replicate 16 (.passing clearedWatchEntry)
  faultMap := defaultFaultMap

/-- The Table Store after PIN reset (R25): contents and selector kept, flags clear, working parameters at their
defaults, and the pin-reset walk of the active bank started (R11). -/
def pinResetTables (t : TableStore) : TableStore :=
  { t with
    verifiedA := false
    verifiedB := false
    walk := .running .pinReset 0 []
    walkedBank := t.selector
    copy := none
    swapPending := false
    wp := defaultWorking
    cellFault := emptyCellFault }

/-! ### The other blocks -/

/-- A stream entry after either reset (R47). -/
def resetStream : StreamMeta := ⟨.never, none, .stopped, .stopped, .none, false⟩

/-- Signal Intake after either reset (R47). -/
def resetIntake : Intake where
  streams := ⟨resetStream, resetStream, resetStream, resetStream, resetStream, resetStream⟩
  fillIn := .stopped
  demand := ⟨0, false, false⟩
  battery := ⟨0, 0, 0, 0, false⟩
  inverter := ⟨0, 0, 0, 0, false⟩
  engine := ⟨0, 0, 0, 0, false, false⟩
  clutch := ⟨.isOpen, false⟩
  brake := ⟨0⟩

/-- The limit record with no lane present (R49). -/
def absentRecord : LimitRecord := ⟨none, none, none, none⟩

/-- The Limit Vector Unit after either reset (R64). -/
def resetLimits : Limits where
  static := ⟨some 250, some (-50), some 200, some (-200)⟩
  engine := ⟨some 0, some 0, none, none⟩
  inverter := ⟨none, none, some 0, some 0⟩
  battery := ⟨none, none, some 0, some 0⟩
  brake := ⟨none, none, none, some 0⟩
  watch := absentRecord
  fault := absentRecord
  combined := ⟨0, 0, 0, 0⟩

/-- The empty binding set (R83). -/
def emptyBinding : Binding := ⟨false, false, false, false, false⟩

/-- A zeroed split record (R92). -/
def zeroRecord : SplitRecord where
  kind := .demand
  count := 0
  d := 0
  speed := 0
  soc := 0
  band := 0
  e := 0
  c := 0
  engRaw := 0
  lanes := ⟨0, 0, 0, 0⟩
  engineCmd := 0
  motorCmd := 0
  engineShare := 0
  driverShare := 0
  u := 0
  binding := emptyBinding
  mode := .standby
  wanted := false

/-- The split context after either reset (R92). -/
def resetSplit : SplitState where
  band := 0
  recompute := true
  prev := 0
  prevWanted := false
  count := 0
  history := ⟨zeroRecord, zeroRecord, zeroRecord⟩
  cycle := none
  waiting := none
  started := false

/-- The Regime Controller after either reset (R127); SAFE_N is low while the reset is applied (R125). -/
def resetRegime (applied : Bool) : RegimeState where
  mode := .standby
  attempts := 0
  want := 0
  unwant := 0
  matchCount := 0
  crankT := .stopped
  syncT := .stopped
  clutchT := .stopped
  retryT := .stopped
  minRun := .idle
  dest := .electric
  safeNLow := applied

/-- The Fault Unit after either reset (R142). -/
def resetFaults : FaultUnit := ⟨Vector.replicate 12 ⟨.clear, false, false⟩⟩

/-- The state of one watch after a reset, from its entry as the reset leaves it (R156). -/
def resetWatchCell : Checked WatchEntry → WatchCell
  | .passing e => ⟨if e.enable then .waiting else .disabled, false⟩
  | .failing => ⟨.disabled, false⟩

/-- The Watch Unit after a reset that leaves the given watch table (R156), formed from the entries as they stand at the
reset's start (DESIGN CHOICE, unsafe, log entry 28). -/
def resetWatch (table : Vector (Checked WatchEntry) 16) : WatchUnit :=
  ⟨Vector.ofFn fun i : Fin 16 => resetWatchCell table[i], [], false⟩

/-- A port after either reset (R180, R168). -/
def resetPort : PortState := ⟨.errorActive, 0, 0, 0, none⟩

/-- The Port Interfaces after either reset (R168, R180). -/
def resetPorts : PortsState where
  port := ⟨resetPort, resetPort⟩
  slots := ⟨.empty, .empty, .empty, .empty, .empty, .empty, .empty⟩
  counters := ⟨0, 0, 0, 0, 0, 0, 0, 0⟩

/-- A forward queue after either reset (R180). -/
def resetQueue : ForwardQueue := ⟨[], false⟩

/-- What the Management Unit holds for a requester after either reset (R198). -/
def resetRequester : RequesterState := ⟨none, .stopped, false, none⟩

end Sys2Proof.Machine
end

