-- ==== Sys2Proof/Machine/State.lean ====
section
/-! DEFINITION. The state of the block, the reasons a step can stop, and the state after reset. -/

namespace Sys2Proof.Machine

/-- The state of the TS20: one field for each block of section 0.2, the strap readings, the reset in force, the
model's own counter of free values, and the queue of commands that wait. -/
structure State where
  /-- Table Store (R24). -/
  tables : TableStore
  /-- Signal Intake (R26). -/
  intake : Intake
  /-- Limit Vector Unit (R49). -/
  limits : Limits
  /-- Split Engine (R65, R66). -/
  split : SplitState
  /-- Regime Controller and the SAFE_N line (R94, R125). -/
  regime : RegimeState
  /-- Fault Unit (R128). -/
  faults : FaultUnit
  /-- Watch Unit (R146). -/
  watch : WatchUnit
  /-- Port Interfaces: slots, counters and error confinement (R158, R161, R176). -/
  ports : PortsState
  /-- Forward queues: `u` is forward queue U, sent on Port U, and `d` is forward queue D (R175). -/
  forward : ByPort ForwardQueue
  /-- Management Unit, one record a requester (R191, R182, R195). -/
  mgmt : ByRequester RequesterState
  /-- The code read from STRAP_ID1 and STRAP_ID0 at the last reset's end (R173, R203). -/
  strapId : BitVec 2
  /-- STRAP_RATE as read at the last reset's end: high is 250 kbit/s, low 500 kbit/s (R203). -/
  strapRate : Bool
  /-- The reset that is applied, if one is (R203). -/
  resetApplied : Option ResetKind
  /-- The model's own counter: the index at which the next free value is taken (DESIGN CHOICE, safe, log entry 22). -/
  freeIx : Nat
  /-- The commands that wait, first in, first out. -/
  pending : List Instr
  deriving DecidableEq, Repr

/-- Faults: none. The manual gives no event at which the part stops without a next state, so this type has no
constructor. -/
inductive Fault where
  deriving DecidableEq, Repr

/-- Refusals. -/
inductive Refusal where
  /-- Raised by `exec` alone, for a row of the table that has no meaning yet: no arm of this model raises it. Safe:
  the machine stops where the part goes on. -/
  | notModelled (mnemonic : String)
  deriving DecidableEq, Repr

/-- The part right after POWER_ON reset has ended: every block as its reset rule gives it, SAFE_N released (R125).
The strap pins were read at that end (R203); the model reads them low, code 0 and 500 kbit/s (DESIGN CHOICE, unsafe,
log entry 2). -/
def State.reset : State where
  tables := powerOnTables
  intake := resetIntake
  limits := resetLimits
  split := resetSplit
  regime := resetRegime false
  faults := resetFaults
  watch := resetWatch powerOnTables.watch
  ports := resetPorts
  forward := ⟨resetQueue, resetQueue⟩
  mgmt := ⟨resetRequester, resetRequester⟩
  strapId := 0
  strapRate := false
  resetApplied := none
  freeIx := 0
  pending := []

end Sys2Proof.Machine
end

