-- ==== Sys2Proof/Machine/Operands.lean ====
section
/-! DEFINITION. Reading and writing the bits of frames, and the manual's arithmetic conventions: clamping and rounding
(section 0.4.1), the data word W and its fields (R199, R200), the check byte (R28, R162), the codes of enumerated
fields (R201), stream decoding with clamping (R31 to R36), and the management frames (R202). -/

namespace Sys2Proof.Machine

/-! ### Arithmetic (section 0.4.1) -/

/-- A value clamped to lo..hi: the nearer end when it lies outside, kept when it lies inside. -/
def clamp (x lo hi : Int) : Int := if x < lo then lo else if hi < x then hi else x

/-- A HI lane value saturated into 0..400 (R48). -/
def satHi (x : Int) : Int := clamp x 0 400

/-- A LO lane value saturated into −400..0 (R48). -/
def satLo (x : Int) : Int := clamp x (-400) 0

/-- A quotient of numbers that are not negative, rounded half up (R72): one is added to the floored quotient when
twice the remainder is at least the divisor. -/
def roundHalfUp (num den : Int) : Int := if den ≤ 2 * (num % den) then num / den + 1 else num / den

/-- A quotient rounded half away from zero (R74). -/
def roundHalfAway (num den : Int) : Int := if 0 ≤ num then roundHalfUp num den else -roundHalfUp (-num) den

/-! ### The data word W (R199) -/

/-- Bytes as a number, the first least significant. -/
def bytesToNat : List Byte → Nat
  | [] => 0
  | b :: bs => b.toNat + 256 * bytesToNat bs

/-- The data word W of a frame's data bytes (R199); bytes that are missing count as 0. -/
def dataWord (data : List Byte) : DataWord := BitVec.ofNat 48 (bytesToNat (data.take 6))

/-- Data byte 6 of a frame. -/
def byte6 (data : List Byte) : Byte := data.getD 6 0

/-- The rolling counter of a frame: bits 0..3 of byte 6 (R199). -/
def counterOf (data : List Byte) : Nibble := (byte6 data).extractLsb' 0 4

/-- Bit `n` of byte 6, a flag that is set when the bit is 1 (R199). -/
def flagBit (data : List Byte) (n : Nat) : Bool := (byte6 data).getLsbD n

/-- An unsigned field of W: `n` bits from bit `lo` up. -/
def fieldU (w : DataWord) (lo n : Nat) : Int := ((w.extractLsb' lo n).toNat : Int)

/-- A signed field of W, two's complement in `n` bits from bit `lo` up (R199). -/
def fieldS (w : DataWord) (lo n : Nat) : Int := (w.extractLsb' lo n).toInt

/-- A temperature field: eight bits that carry the temperature plus 40 (R199). -/
def fieldTemp (w : DataWord) (lo : Nat) : Int := fieldU w lo 8 - 40

/-- A word of `width` bits that is 0 but for the value placed in `n` bits from bit `lo` up, two's complement when it
is negative (R199, R200). -/
def putBits (width lo n : Nat) (v : Int) : BitVec width := ((BitVec.ofInt n v).setWidth width) <<< lo

/-- A flag as a one-bit value. -/
def bit (b : Bool) : Int := if b then 1 else 0

/-- The check byte: 255 − ((sum of data bytes 0..6 + low byte of the identifier) mod 256) (R28, R162). -/
def checkByte (id : Ident) (first7 : List Byte) : Byte :=
  BitVec.ofNat 8 (255 - ((first7.map BitVec.toNat).sum + id.toNat % 256) % 256)

/-- The eight data bytes of a frame the part originates: W, byte 6 with the counter in bits 0..3 and the upper bits
given, and the check byte (R200, R161, R162). -/
def frameBytes (id : Ident) (w : DataWord) (upper : Nibble) (counter : Nibble) : List Byte :=
  let first7 : List Byte :=
    [w.extractLsb' 0 8, w.extractLsb' 8 8, w.extractLsb' 16 8, w.extractLsb' 24 8, w.extractLsb' 32 8,
     w.extractLsb' 40 8, upper ++ counter]
  first7 ++ [checkByte id first7]

/-! ### Codes of enumerated fields (R201) -/

/-- Code of a regime, the bit it has in a watch mask (R201). -/
def Regime.code : Regime → Nat
  | .standby => 0 | .electric => 1 | .crank => 2 | .sync => 3 | .hybrid => 4 | .release => 5
  | .limpEngine => 6 | .limpMotor => 7 | .safe => 8

/-- Code of a regime and phase (R201). -/
def Mode.code : Mode → Nat
  | .standby => 0 | .electric => 1 | .crankStarter => 2 | .crankClutch => 3 | .syncIdle => 4 | .syncMatch => 5
  | .hybridLocking => 6 | .hybridShared => 7 | .releaseRampDown => 8 | .releaseOpening => 9
  | .limpEngineStart => 10 | .limpEngineDrive => 11 | .limpMotor => 12 | .safe => 13

/-- Code of an ENGINE_CMD mode (R201). -/
def EngineMode.code : EngineMode → Nat
  | .off => 0 | .starter => 1 | .idle => 2 | .speed => 3 | .torque => 4

/-- Code of an INVERTER_CMD mode (R201). -/
def InverterMode.code : InverterMode → Nat
  | .standby => 0 | .torque => 1

/-- Code of a CLUTCH_CMD target (R201). -/
def ClutchTarget.code : ClutchTarget → Nat
  | .isOpen => 0 | .slip => 1 | .lock => 2

/-- Code of a clutch state (R201). -/
def ClutchState.code : ClutchState → Nat
  | .isOpen => 0 | .slipping => 1 | .locked => 2

/-- A clutch state from its code: code 3 has no meaning and is decoded as SLIPPING (R36). -/
def ClutchState.ofCode (n : Int) : ClutchState :=
  if n = 0 then .isOpen else if n = 2 then .locked else .slipping

/-- Code of a status (R201). -/
def Status.code : Status → Nat
  | .ok => 0 | .busy => 1 | .held => 2 | .holdPending => 3 | .checkFailed => 4 | .wrongRegime => 5 | .wrongBank => 6
  | .badIndex => 7 | .badField => 8 | .badValue => 9 | .conditionPresent => 10 | .badRequest => 11

/-- Code of a table (R201). -/
def TableName.code : TableName → Nat
  | .bank .param => 0 | .bank .speedBp => 1 | .bank .demandBp => 2 | .bank .thresh => 3 | .bank .map0 => 4
  | .bank .map1 => 5 | .bank .map2 => 6 | .bank .map3 => 7 | .live .forward => 8 | .live .watch => 9
  | .live .faultMap => 10

/-- The table a code names; a code above 10 has no meaning (R201, R184). -/
def TableName.ofCode (n : Nat) : Option TableName :=
  [TableName.bank .param, .bank .speedBp, .bank .demandBp, .bank .thresh, .bank .map0, .bank .map1, .bank .map2,
   .bank .map3, .live .forward, .live .watch, .live .faultMap][n]?

/-- Code of a port (R201). -/
def Port.code : Port → Nat
  | .portU => 0 | .portD => 1

/-- The port a value codes (R201). -/
def Port.ofCode (v : Int) : Option Port := if v = 0 then some .portU else if v = 1 then some .portD else none

/-- Code of a forwarding action (R201). -/
def FwdAction.code : FwdAction → Nat
  | .pass => 0 | .consume => 1 | .consumePass => 2 | .drop => 3

/-- The forwarding action a value codes (R201). -/
def FwdAction.ofCode (v : Int) : Option FwdAction :=
  if v = 0 then some .pass else if v = 1 then some .consume else if v = 2 then some .consumePass
  else if v = 3 then some .drop else none

/-- Code of a port default (R201): the codes of the forwarding actions. -/
def DefaultAction.code : DefaultAction → Nat
  | .pass => 0 | .drop => 3

/-- The port default a value codes; CONSUME and CONSUME_PASS carry no default (R170). -/
def DefaultAction.ofCode (v : Int) : Option DefaultAction :=
  if v = 0 then some .pass else if v = 3 then some .drop else none

/-- Code of a stream role, where 0 is none (R201). -/
def roleCode : Option Role → Nat
  | none => 0 | some .demand => 1 | some .battery => 2 | some .inverter => 3 | some .engine => 4 | some .clutch => 5
  | some .brake => 6

/-- The stream role a value codes, none included (R201). -/
def roleOfCode (v : Int) : Option (Option Role) :=
  if v = 0 then some none else if v = 1 then some (some .demand) else if v = 2 then some (some .battery)
  else if v = 3 then some (some .inverter) else if v = 4 then some (some .engine)
  else if v = 5 then some (some .clutch) else if v = 6 then some (some .brake) else none

/-- Code of a watch quantity (R201). -/
def Quantity.code : Quantity → Nat
  | .soc => 0 | .shaftSpeed => 1 | .battTemp => 2 | .motorTemp => 3 | .coolantTemp => 4 | .demand => 5 | .unmet => 6

/-- The watch quantity a value codes (R201). -/
def Quantity.ofCode (v : Int) : Option Quantity :=
  if v = 0 then some .soc else if v = 1 then some .shaftSpeed else if v = 2 then some .battTemp
  else if v = 3 then some .motorTemp else if v = 4 then some .coolantTemp else if v = 5 then some .demand
  else if v = 6 then some .unmet else none

/-- Code of a comparison (R201). -/
def Comparison.code : Comparison → Nat
  | .above => 0 | .below => 1

/-- The comparison a value codes (R201). -/
def Comparison.ofCode (v : Int) : Option Comparison :=
  if v = 0 then some .above else if v = 1 then some .below else none

/-- Code of a watch action (R201). -/
def WatchAction.code : WatchAction → Nat
  | .notify => 0 | .derateMotor => 1 | .derateEngine => 2 | .engineHold => 3 | .engineInhibit => 4

/-- The watch action a value codes (R201). -/
def WatchAction.ofCode (v : Int) : Option WatchAction :=
  if v = 0 then some .notify else if v = 1 then some .derateMotor else if v = 2 then some .derateEngine
  else if v = 3 then some .engineHold else if v = 4 then some .engineInhibit else none

/-- Code of a consequence (R201). -/
def Consequence.code : Consequence → Nat
  | .none => 0 | .limpEngine => 1 | .limpMotor => 2 | .safe => 3

/-- The consequence a value codes (R201). -/
def Consequence.ofCode (v : Int) : Option Consequence :=
  if v = 0 then some .none else if v = 1 then some .limpEngine else if v = 2 then some .limpMotor
  else if v = 3 then some .safe else Option.none

/-- Code of a clear mode (R201). -/
def ClearMode.code : ClearMode → Nat
  | .auto => 0 | .manual => 1

/-- The clear mode a value codes (R201). -/
def ClearMode.ofCode (v : Int) : Option ClearMode :=
  if v = 0 then some .auto else if v = 1 then some .manual else none

/-- Code of a fault state (R201). -/
def FaultState.code : FaultState → Nat
  | .clear => 0 | .active => 1 | .awaitAck => 2

/-- Code of a stream state (R201). -/
def StreamState.code : StreamState → Nat
  | .never => 0 | .fresh => 1 | .held => 2 | .lapsed => 3

/-- Code of a discard reason (R201). -/
def DiscardReason.code : DiscardReason → Nat
  | .none => 0 | .length => 1 | .check => 2 | .repeated => 3

/-- Code of a walk state (R201). -/
def Walk.code : Walk → Nat
  | .idle => 0 | .running _ _ _ => 1 | .passed => 2 | .failed _ => 3

/-- Code of a walk failure reason (R201). -/
def WalkReason.code : WalkReason → Nat
  | .check => 1 | .range => 2 | .order => 3 | .cross => 4

/-- Code of a watch state (R201). -/
def WatchState.code : WatchState → Nat
  | .disabled => 0 | .waiting => 1 | .idle => 2 | .matched => 3

/-- Code of a port error state (R201). -/
def ErrorState.code : ErrorState → Nat
  | .errorActive => 0 | .errorPassive => 1 | .busOff => 2

/-- Code of a split bank (R201). -/
def BankName.code : BankName → Nat
  | .bankA => 0 | .bankB => 1

/-- Code of a cycle kind (R201). -/
def CycleKind.code : CycleKind → Nat
  | .demand => 0 | .fillIn => 1

/-- A forced set as its bits: ENGINE 0, MOTOR_DRIVE 1, MOTOR_REGEN 2, CLUTCH_LOCK 3 (R201). -/
def ForcedSet.bits (f : ForcedSet) : Int :=
  bit f.engine + 2 * bit f.motorDrive + 4 * bit f.motorRegen + 8 * bit f.clutchLock

/-- The forced set a value carries; a bit above its last member has no meaning (R201). -/
def ForcedSet.ofBits (v : Int) : Option ForcedSet :=
  if 0 ≤ v ∧ v ≤ 15 then
    let b := BitVec.ofInt 4 v
    some ⟨b.getLsbD 0, b.getLsbD 1, b.getLsbD 2, b.getLsbD 3⟩
  else none

/-- A binding set as its bits: ENG_HI 0, ENG_LO 1, MOT_HI 2, MOT_LO 3, ENG_SLEW 4 (R201). -/
def Binding.bits (b : Binding) : Int :=
  bit b.engHi + 2 * bit b.engLo + 4 * bit b.motHi + 8 * bit b.motLo + 16 * bit b.engSlew

/-! ### Decoding the streams (R31 to R36, R199) -/

/-- DEMAND decoded and clamped (R32, R199). -/
def decodeDemand (data : List Byte) : DemandVals :=
  let w := dataWord data
  { torque := clamp (fieldS w 0 12) (-600) 600
    ready := flagBit data 4
    zone := flagBit data 5 }

/-- BATTERY decoded and clamped (R33, R199). -/
def decodeBattery (data : List Byte) : BatteryVals :=
  let w := dataWord data
  { soc := clamp (fieldU w 0 11) 0 1000
    pDis := clamp (fieldU w 11 12) 0 2000
    pChg := clamp (fieldU w 23 12) 0 2000
    temp := clamp (fieldTemp w 35) (-40) 100
    contactorClosed := flagBit data 4 }

/-- INVERTER decoded and clamped (R34, R199). -/
def decodeInverter (data : List Byte) : InverterVals :=
  let w := dataWord data
  { speed := clamp (fieldU w 0 13) 0 7000
    motoring := clamp (fieldU w 13 10) 0 400
    generating := clamp (fieldU w 23 10) 0 400
    temp := clamp (fieldTemp w 33) (-40) 200
    fault := flagBit data 4 }

/-- ENGINE decoded and clamped (R35, R199): the drag torque is carried as a magnitude and stored as its negative. -/
def decodeEngine (data : List Byte) : EngineVals :=
  let w := dataWord data
  { speed := clamp (fieldU w 0 13) 0 7000
    available := clamp (fieldU w 13 10) 0 400
    drag := -(clamp (fieldU w 23 10) 0 400)
    temp := clamp (fieldTemp w 33) (-40) 150
    running := flagBit data 4
    fault := flagBit data 5 }

/-- CLUTCH decoded (R36, R199). -/
def decodeClutch (data : List Byte) : ClutchVals :=
  { state := ClutchState.ofCode (fieldU (dataWord data) 0 2)
    fault := flagBit data 4 }

/-- BRAKE decoded and clamped (R36, R199). -/
def decodeBrake (data : List Byte) : BrakeVals :=
  { regen := clamp (fieldU (dataWord data) 0 10) 0 400 }

/-! ### Values in the W form, for the streams page of STATUS (R202) -/

/-- DEMAND values as W (R199, R202). -/
def wordDemand (v : DemandVals) : DataWord := putBits 48 0 12 v.torque

/-- BATTERY values as W. -/
def wordBattery (v : BatteryVals) : DataWord :=
  putBits 48 0 11 v.soc ||| putBits 48 11 12 v.pDis ||| putBits 48 23 12 v.pChg ||| putBits 48 35 8 (v.temp + 40)

/-- INVERTER values as W. -/
def wordInverter (v : InverterVals) : DataWord :=
  putBits 48 0 13 v.speed ||| putBits 48 13 10 v.motoring ||| putBits 48 23 10 v.generating |||
    putBits 48 33 8 (v.temp + 40)

/-- ENGINE values as W, the drag torque as its magnitude (R202). -/
def wordEngine (v : EngineVals) : DataWord :=
  putBits 48 0 13 v.speed ||| putBits 48 13 10 v.available ||| putBits 48 23 10 (-v.drag) |||
    putBits 48 33 8 (v.temp + 40)

/-- CLUTCH values as W, the state by its code (R202). -/
def wordClutch (v : ClutchVals) : DataWord := putBits 48 0 2 v.state.code

/-- BRAKE values as W. -/
def wordBrake (v : BrakeVals) : DataWord := putBits 48 0 10 v.regen

/-- Bits 4..7 of byte 6 of a DEMAND frame (R199). -/
def flagsDemand (v : DemandVals) : Nibble := putBits 4 0 1 (bit v.ready) ||| putBits 4 1 1 (bit v.zone)

/-- Bits 4..7 of byte 6 of a BATTERY frame. -/
def flagsBattery (v : BatteryVals) : Nibble := putBits 4 0 1 (bit v.contactorClosed)

/-- Bits 4..7 of byte 6 of an INVERTER frame. -/
def flagsInverter (v : InverterVals) : Nibble := putBits 4 0 1 (bit v.fault)

/-- Bits 4..7 of byte 6 of an ENGINE frame. -/
def flagsEngine (v : EngineVals) : Nibble := putBits 4 0 1 (bit v.running) ||| putBits 4 1 1 (bit v.fault)

/-- Bits 4..7 of byte 6 of a CLUTCH frame. -/
def flagsClutch (v : ClutchVals) : Nibble := putBits 4 0 1 (bit v.fault)

/-! ### Frames the part originates (R200, R202) -/

/-- The data word of a payload (R200; a reply's bytes 0..5 by R202). -/
def Payload.word : Payload → DataWord
  | .engineCmd mode torque speed => putBits 48 0 3 mode.code ||| putBits 48 3 12 torque ||| putBits 48 15 13 speed
  | .inverterCmd mode torque => putBits 48 0 1 mode.code ||| putBits 48 1 12 torque
  | .clutchCmd target capacity => putBits 48 0 2 target.code ||| putBits 48 2 10 capacity
  | .brakeShare friction regen => putBits 48 0 10 friction ||| putBits 48 10 10 regen
  | .splitReport d engine motor u binding _ =>
    putBits 48 0 11 d ||| putBits 48 11 10 engine ||| putBits 48 21 10 motor ||| putBits 48 31 11 u |||
      putBits 48 42 5 binding.bits
  | .notice n =>
    putBits 48 0 4 (n.entry.val : Nat) ||| putBits 48 4 3 n.quantity.code ||| putBits 48 7 1 n.comparison.code |||
      putBits 48 8 14 n.value ||| putBits 48 22 14 n.threshold ||| putBits 48 36 12 (n.count.toNat : Int)
  | .reply tag table field index value _ => value ++ index ++ field ++ table ++ tag

/-- Bits 4..7 of byte 6 of a payload (R200): the regime and phase for a report or notice, the status for a reply
(R202), and 0 for the others. -/
def Payload.upper : Payload → Nibble
  | .splitReport _ _ _ _ _ mode => BitVec.ofNat 4 mode.code
  | .notice n => BitVec.ofNat 4 n.mode.code
  | .reply _ _ _ _ _ status => BitVec.ofNat 4 status.code
  | .engineCmd _ _ _ | .inverterCmd _ _ | .clutchCmd _ _ | .brakeShare _ _ => 0

/-- The frame put on the bus for a content, with the counter of its kind and its check byte (R161, R162, R200). -/
def Content.toFrame (c : Content) (counter : Nibble) : Frame :=
  ⟨c.id, frameBytes c.id c.payload.word c.payload.upper counter⟩

/-! ### Management requests (R181, R202) -/

/-- The kinds of request (R181, R201). -/
inductive ReqKind where
  | read | readHold | write | release | copy | commit | cancel | ack | status
  deriving DecidableEq, Repr

/-- The kind a code names; a code above 8 has no meaning (R201, R184). -/
def ReqKind.ofCode (n : Nat) : Option ReqKind :=
  [ReqKind.read, .readHold, .write, .release, .copy, .commit, .cancel, .ack, .status][n]?

/-- Code of a request kind (R201). -/
def ReqKind.code : ReqKind → Nat
  | .read => 0 | .readHold => 1 | .write => 2 | .release => 3 | .copy => 4 | .commit => 5 | .cancel => 6 | .ack => 7
  | .status => 8

/-- A request as received (R181). `kind` is absent when the frame cannot be taken as a request: its length is not 8
or its kind code has no meaning (R184 order 1). -/
structure Request where
  kind : Option ReqKind
  tag : Byte
  bank : BankSel
  table : Nibble
  field : Nibble
  index : Byte
  value : Value24
  deriving DecidableEq, Repr

/-- The request a frame's data bytes carry (R202); bytes a short frame lacks are taken as 0. -/
def Request.ofBytes (data : List Byte) : Request :=
  let b0 := data.getD 0 0
  let b2 := data.getD 2 0
  { kind := if data.length = 8 then ReqKind.ofCode (b0.extractLsb' 0 4).toNat else none
    tag := data.getD 1 0
    bank := if b0.getLsbD 4 then .shadow else .active
    table := b2.extractLsb' 0 4
    field := b2.extractLsb' 4 4
    index := data.getD 3 0
    value := data.getD 6 0 ++ data.getD 5 0 ++ data.getD 4 0 }

/-- The data bytes of a request (R202), for the requester's side; the bits the part does not read are 0. -/
def Request.toBytes (r : Request) (k : ReqKind) : List Byte :=
  let bankBit : BitVec 4 := match r.bank with
    | .active => 0
    | .shadow => 1
  [bankBit ++ BitVec.ofNat 4 k.code, r.tag, r.field ++ r.table, r.index, r.value.extractLsb' 0 8,
   r.value.extractLsb' 8 8, r.value.extractLsb' 16 8, 0]

end Sys2Proof.Machine
end

