-- ==== Sys2Proof/Machine/Ops.lean ====
section
/-! DEFINITION. The operations that several commands share: replacing one block of the state, reading and writing
table entries, the events of the Fault Unit (R135), the slot moves of R158, entering a regime (R98, R102, R103), the
latch and the swap (R19, R20), the error states of a port (R177) and joining a forward queue (R175). -/

namespace Sys2Proof.Machine

/-! ### Replacing one block -/

def State.setTables (s : State) (x : TableStore) : State := { s with tables := x }
def State.setIntake (s : State) (x : Intake) : State := { s with intake := x }
def State.setLimits (s : State) (x : Limits) : State := { s with limits := x }
def State.setSplit (s : State) (x : SplitState) : State := { s with split := x }
def State.setRegime (s : State) (x : RegimeState) : State := { s with regime := x }
def State.setFaults (s : State) (x : FaultUnit) : State := { s with faults := x }
def State.setWatch (s : State) (x : WatchUnit) : State := { s with watch := x }
def State.setPorts (s : State) (x : PortsState) : State := { s with ports := x }
def State.setForward (s : State) (x : ByPort ForwardQueue) : State := { s with forward := x }
def State.setMgmt (s : State) (x : ByRequester RequesterState) : State := { s with mgmt := x }
def State.setFreeIx (s : State) (x : Nat) : State := { s with freeIx := x }

/-- Takes an event only while no reset is applied: while one is, no frame is received or transmitted and no request
is taken (R180, R198, R203), and every timer is stopped (DEDUCED, unsafe, log entry 12). -/
def State.unlessReset (s t : State) : State :=
  match s.resetApplied with
  | none => t
  | some _ => s

/-- A choice the manual leaves open between two values: the value itself when both are the same, else the one a free
value names. -/
def openChoice {α : Type} [DecidableEq α] (free : Bool) (first second : α) : α :=
  if first = second then first else if free then first else second

/-! ### Banks and entries -/

/-- The bank of a name. -/
def TableStore.bank (t : TableStore) : BankName → Bank
  | .bankA => t.bankA
  | .bankB => t.bankB

/-- Replaces a bank. -/
def TableStore.setBank (t : TableStore) (b : BankName) (x : Bank) : TableStore :=
  match b with
  | .bankA => { t with bankA := x }
  | .bankB => { t with bankB := x }

/-- The verified flag of a bank (R10). -/
def TableStore.verified (t : TableStore) : BankName → Bool
  | .bankA => t.verifiedA
  | .bankB => t.verifiedB

/-- Replaces the verified flag of a bank. -/
def TableStore.setVerified (t : TableStore) (b : BankName) (v : Bool) : TableStore :=
  match b with
  | .bankA => { t with verifiedA := v }
  | .bankB => { t with verifiedB := v }

/-- The bank the selector does not name (R2). -/
def TableStore.shadow (t : TableStore) : BankName := t.selector.other

/-- The bank a request names, as the selector names it at that moment (R185). -/
def TableStore.named (t : TableStore) : BankSel → BankName
  | .active => t.selector
  | .shadow => t.shadow

/-- The entry of a bank at a position of the walk order; beyond the last it reads as failing. -/
def Bank.entryAt (x : Bank) (p : Nat) : Checked BankFields := x.entries[p]?.getD .failing

/-- Replaces the entry at a position. -/
def Bank.setAt (x : Bank) (p : Nat) (e : Checked BankFields) : Bank := ⟨x.entries.setIfInBounds p e⟩

/-- The entry of a table at an index. -/
def Bank.read (x : Bank) (t : BankTable) (i : Nat) : Checked BankFields := x.entryAt (t.base + i)

/-- Replaces the entry of a table at an index. -/
def Bank.write (x : Bank) (t : BankTable) (i : Nat) (e : Checked BankFields) : Bank := x.setAt (t.base + i) e

/-- Writes one entry of one bank. -/
def TableStore.writeBank (t : TableStore) (b : BankName) (tbl : BankTable) (i : Nat) (e : Checked BankFields) :
    TableStore :=
  t.setBank b ((t.bank b).write tbl i e)

/-- Whether a walk is RUNNING (R11). -/
def Walk.isRunning : Walk → Bool
  | .running _ _ _ => true
  | .idle | .passed | .failed _ => false

/-- Whether the pin-reset walk is RUNNING (R25, R105). -/
def Walk.isPinReset : Walk → Bool
  | .running .pinReset _ _ => true
  | .running .commit _ _ | .idle | .passed | .failed _ => false

/-- The copy-running flag (R15). -/
def TableStore.copyRunning (t : TableStore) : Bool := t.copy.isSome

/-- A fault-map entry as its readers read it: a failing entry is the power-on default of its source (R9, R134). -/
def TableStore.faultEntry (t : TableStore) (i : Fin 12) : FaultEntry :=
  match t.faultMap[i] with
  | .passing e => e
  | .failing => defaultFaultEntry i

/-- The default action of a port: a failing entry 47 reads as PASS (R9, R170). -/
def TableStore.defaultAction (t : TableStore) (p : Port) : DefaultAction :=
  match t.portDefaults, p with
  | .passing x, .portU => x.u
  | .passing x, .portD => x.d
  | .failing, _ => .pass

/-- An upset: the entry's content is undetermined and it fails its check (R7). An entry that does not exist is not
struck. -/
def TableStore.strike (t : TableStore) : EntryRef → TableStore
  | .bank b tbl i => if i < tbl.size then t.writeBank b tbl i .failing else t
  | .live .forward i =>
    if i = 47 then { t with portDefaults := .failing } else { t with forward := t.forward.setIfInBounds i .failing }
  | .live .watch i => { t with watch := t.watch.setIfInBounds i .failing }
  | .live .faultMap i => { t with faultMap := t.faultMap.setIfInBounds i .failing }

/-! ### Fault events (R128, R135) -/

/-- Source indices of R128 that rules name. -/
def srcInverterFault : Fin 12 := 6
def srcEngineFault : Fin 12 := 7
def srcContactorOpen : Fin 12 := 8
def srcClutchFault : Fin 12 := 9
def srcCrankFail : Fin 12 := 10
def srcDownlinkLoss : Fin 12 := 11

/-- The lapse source of a role (R128, indices 0 to 5). -/
def lapseSource : Role → Fin 12
  | .demand => 0
  | .battery => 1
  | .inverter => 2
  | .engine => 3
  | .clutch => 4
  | .brake => 5

/-- Whether the condition of a source is present: either part of it (R128). -/
def FaultSource.present (x : FaultSource) : Bool := x.cond || x.timeout

/-- A raise of the condition, or of its frame part: ACTIVE in every state (R135). -/
def FaultSource.raised (x : FaultSource) : FaultSource := { x with state := .active, cond := true }

/-- A raise of the timeout part of the CLUTCH_FAULT condition (R131). -/
def FaultSource.raisedTimeout (x : FaultSource) : FaultSource := { x with state := .active, timeout := true }

/-- A removal of the condition, both parts: an ACTIVE source goes to CLEAR or AWAIT_ACK by its clear mode; a removal
that finds the condition absent is no event (R135). -/
def FaultSource.removed (x : FaultSource) (m : ClearMode) : FaultSource :=
  if x.present then
    { state := match x.state, m with
        | .active, .auto => .clear
        | .active, .manual => .awaitAck
        | .clear, _ => .clear
        | .awaitAck, _ => .awaitAck
      cond := false
      timeout := false }
  else x

/-- Replaces one source. -/
def FaultUnit.set (f : FaultUnit) (i : Fin 12) (x : FaultSource) : FaultUnit := ⟨f.sources.set i x⟩

/-- A raise of a source's condition (R135). -/
def State.raiseFault (s : State) (i : Fin 12) : State := s.setFaults (s.faults.set i s.faults.sources[i].raised)

/-- A removal of a source's condition; the clear mode is read from its fault-map entry at the removal (R135). -/
def State.removeFault (s : State) (i : Fin 12) : State :=
  s.setFaults (s.faults.set i (s.faults.sources[i].removed (s.tables.faultEntry i).clearMode))

/-- The flag of an accepted frame as a raise when it says the condition is present, a removal otherwise (R130). -/
def State.handFlag (s : State) (i : Fin 12) (isPresent : Bool) : State :=
  if isPresent then s.raiseFault i else s.removeFault i

/-! ### Slots (R158) -/

/-- The filler places a content. -/
def Slot.place (x : Slot) (c : Content) : Slot :=
  match x with
  | .empty | .waiting _ => .waiting c
  | .sending c0 | .sendingNext c0 _ => .sendingNext c0 c

/-- A transmit start chooses the slot. -/
def Slot.start : Slot → Slot
  | .waiting c => .sending c
  | .empty => .empty
  | .sending c => .sending c
  | .sendingNext c n => .sendingNext c n

/-- Completion of transmission. -/
def Slot.complete : Slot → Slot
  | .sending _ => .empty
  | .sendingNext _ n => .waiting n
  | .empty => .empty
  | .waiting c => .waiting c

/-- The attempt fails: arbitration lost, or an error. -/
def Slot.fail : Slot → Slot
  | .sending c => .waiting c
  | .sendingNext _ n => .waiting n
  | .empty => .empty
  | .waiting c => .waiting c

/-- The slot of a name. -/
def Slots.get (x : Slots) : SlotName → Slot
  | .engineCmd => x.engineCmd
  | .inverterCmd => x.inverterCmd
  | .clutchCmd => x.clutchCmd
  | .brakeShare => x.brakeShare
  | .splitReport => x.splitReport
  | .replySupervisor => x.replySupervisor
  | .replyService => x.replyService

/-- Replaces a slot. -/
def Slots.set (x : Slots) (n : SlotName) (v : Slot) : Slots :=
  match n with
  | .engineCmd => { x with engineCmd := v }
  | .inverterCmd => { x with inverterCmd := v }
  | .clutchCmd => { x with clutchCmd := v }
  | .brakeShare => { x with brakeShare := v }
  | .splitReport => { x with splitReport := v }
  | .replySupervisor => { x with replySupervisor := v }
  | .replyService => { x with replyService := v }

/-- The reply slot of a requester (R160). -/
def replySlot : Requester → SlotName
  | .supervisor => .replySupervisor
  | .service => .replyService

/-- Places a content in a slot. -/
def State.place (s : State) (n : SlotName) (c : Content) : State :=
  s.setPorts { s.ports with slots := s.ports.slots.set n ((s.ports.slots.get n).place c) }

/-! ### Entering a regime (R98, R102, R103, R110, R125) -/

/-- Entry to a regime and phase. The crank, sync and clutch timers are started at the entries R102 names and stopped
at every departure from where they run; the retry timer stops at entry to STANDBY, a LIMP regime or SAFE; the min-run
state becomes IDLE at the entries of R103; the attempt count becomes 0 on reaching HYBRID SHARED (R110); the match
count becomes 0 at entry to CRANK (R106), to either phase of SYNC (R111, R115), to a LIMP regime or SAFE (R98), and at
a departure from SYNC toward RELEASE OPENING (R113); a LIMP regime or SAFE sets the destination to ELECTRIC (R98); and
SAFE_N is low exactly from the entry to SAFE (R125). -/
def RegimeState.enter (wp : WorkingParams) (m : Mode) (r : RegimeState) : RegimeState where
  mode := m
  attempts := if m = .hybridShared then 0 else r.attempts
  want := r.want
  unwant := r.unwant
  matchCount :=
    match m with
    | .crankStarter | .crankClutch | .syncIdle | .syncMatch | .limpEngineStart | .limpEngineDrive | .limpMotor
    | .safe => 0
    | .releaseOpening => if r.mode.regime = .sync then 0 else r.matchCount
    | .standby | .electric | .hybridLocking | .hybridShared | .releaseRampDown => r.matchCount
  crankT :=
    match m with
    | .crankStarter | .crankClutch | .limpEngineStart => .start wp.crankTimeout
    | _ => .stopped
  syncT := if m = .syncMatch then .start wp.syncTimeout else .stopped
  clutchT :=
    match m with
    | .hybridLocking | .releaseOpening => .start wp.clutchTimeout
    | _ => .stopped
  retryT :=
    match m with
    | .standby | .limpEngineStart | .limpEngineDrive | .limpMotor | .safe => .stopped
    | _ => r.retryT
  minRun :=
    match m with
    | .electric | .standby | .limpMotor | .safe | .limpEngineStart => .idle
    | _ => r.minRun
  dest :=
    match m with
    | .limpEngineStart | .limpEngineDrive | .limpMotor | .safe => .electric
    | _ => r.dest
  safeNLow := decide (m = .safe)

/-- The phase of SYNC for a shaft speed (R111). -/
def syncModeFor (wp : WorkingParams) (speed : Int) : Mode :=
  if speed < wp.lockSpeedMin then .syncIdle else .syncMatch

/-- Entry to RELEASE OPENING or RAMP_DOWN with a destination. -/
def RegimeState.enterToward (wp : WorkingParams) (m : Mode) (dest : Destination) (r : RegimeState) : RegimeState :=
  { r.enter wp m with dest := dest }

/-- The running confirmation starts the min-run state: RUNNING, or EXPIRED when `min_run` is 0 (R103). -/
def RegimeState.startMinRun (wp : WorkingParams) (r : RegimeState) : RegimeState :=
  { r with minRun := if wp.minRun ≤ 0 then .expired else .running wp.minRun.toNat }

/-! ### Latch and swap (R19, R20) -/

/-- The STATIC limit record of a set of working parameters (R50). -/
def staticRecord (wp : WorkingParams) : LimitRecord :=
  ⟨some (satHi wp.engHiCap), some (satLo wp.engLoCap), some (satHi wp.motHiCap), some (satLo wp.motLoCap)⟩

/-- The position of the first failing entry in a list whose first entry stands at position `p`. -/
def firstFailing : List (Checked BankFields) → Nat → Option Nat
  | [], _ => none
  | .failing :: _, p => some p
  | .passing _ :: es, p => firstFailing es (p + 1)

/-- The first field of an entry, 0 where it fails. -/
def Checked.firstField : Checked BankFields → Int
  | .passing f => f.f1
  | .failing => 0

/-- Why a latch of a bank is not made: the first of its 79 entries, in walk order, that fails its check (R20). -/
def Bank.latchFailure (x : Bank) : Option Failure :=
  (firstFailing (x.entries.toList.take 79) 0).map fun p => ⟨(tableAt p).1, (tableAt p).2, .check⟩

/-- The working parameters a bank gives (R20). -/
def Bank.latched (x : Bank) : WorkingParams := ⟨Vector.ofFn fun i : Fin 79 => (x.entryAt i.val).firstField⟩

/-- A latch that is made (R20): the working parameters and STATIC take the bank's values (R50), an attempt count above
the new `crank_attempts_max` is lowered to it (R110), and the band recompute mark is set (R70). -/
def State.adopt (s : State) (b : BankName) : State :=
  let wp := (s.tables.bank b).latched
  (((s.setTables { s.tables with wp := wp }).setLimits { s.limits with static := staticRecord wp }).setRegime
      { s.regime with attempts := min s.regime.attempts wp.crankAttemptsMax.toNat }).setSplit
    { s.split with
      recompute := true
      cycle := s.split.cycle.map fun c => { c with remarked := true } }

/-- A latch that is not made: the walk state becomes FAILED with the entry, reason CHECK, and the latched bank's
verified flag is cleared (R20). -/
def TableStore.latchFailed (t : TableStore) (b : BankName) (f : Failure) : TableStore :=
  { t.setVerified b false with walk := .failed f }

/-- The swap (R19): the latch of the shadow; then the selector flips, the new shadow is unverified, the pending flag
clears and the dwell counts are 0. A failed latch ends the swap, clears the pending flag and flips nothing (R20). -/
def State.takeSwap (s : State) : State :=
  let b := s.tables.shadow
  match (s.tables.bank b).latchFailure with
  | some f => s.setTables { s.tables.latchFailed b f with swapPending := false }
  | none =>
    let s := s.adopt b
    let s := s.setTables
      { s.tables.setVerified s.tables.selector false with selector := b, swapPending := false }
    s.setRegime { s.regime with want := 0, unwant := 0 }

/-! ### Error states of a port (R176, R177) -/

/-- The state a port takes from its counts after a change of them (R177; the counts' ranges: DEDUCED, unsafe, log entry
16). -/
def PortState.settled (x : PortState) : PortState :=
  { x with
    error :=
      match x.error with
      | .errorActive =>
        if 255 < x.txCount then .busOff
        else if 127 < x.txCount ∨ 127 < x.rxCount then .errorPassive else .errorActive
      | .errorPassive =>
        if 255 < x.txCount then .busOff
        else if x.txCount ≤ 127 ∧ x.rxCount ≤ 127 then .errorActive else .errorPassive
      | .busOff => .busOff }

/-- The receive error count after a frame of another node is received whole (R176). -/
def PortState.receivedWhole (x : PortState) : PortState :=
  { x with rxCount := if 127 < x.rxCount then 120 else x.rxCount - 1 }.settled

/-- Replaces the state of one port. -/
def State.setPort (s : State) (p : Port) (x : PortState) : State :=
  s.setPorts { s.ports with port := s.ports.port.set p x }

/-! ### Forward queues (R175) -/

/-- A frame is offered to the forward queue that is sent on port `p` (R175): discarded without a flag while that port
is BUS_OFF, discarded with the overflow flag set when the queue holds 16 frames, and else joined at the tail. -/
def State.offerForward (s : State) (p : Port) (f : Frame) : State :=
  let q := s.forward.get p
  if (s.ports.port.get p).error = .busOff then s
  else if 16 ≤ q.frames.length then s.setForward (s.forward.set p { q with overflow := true })
  else s.setForward (s.forward.set p { q with frames := q.frames ++ [f] })

end Sys2Proof.Machine
end

