-- ==== Sys2Proof/Machine/Effective.lean ====
section
/-! DEFINITION. The effective values of the streams (R37): the stored values in FRESH and HELD, the fallbacks in NEVER
and LAPSED. Fields without a fallback (temperatures, fault flags, the contactor flag) keep their stored values. -/

namespace Sys2Proof.Machine

/-- Whether a stream's stored values are in force: FRESH or HELD (R37). -/
def StreamState.live : StreamState → Bool
  | .fresh | .held => true
  | .never | .lapsed => false

/-- Whether the stream of a role is FRESH or HELD. -/
def Intake.live (x : Intake) (r : Role) : Bool := (x.streams.get r).state.live

/-- Effective DEMAND values (R37). -/
def Intake.effDemand (x : Intake) : DemandVals := if x.live .demand then x.demand else ⟨0, false, true⟩

/-- Effective BATTERY values (R37): the power fallbacks are read from the working parameters at the moment of use. -/
def Intake.effBattery (x : Intake) (wp : WorkingParams) : BatteryVals :=
  if x.live .battery then x.battery else { x.battery with soc := 0, pDis := wp.pDisFb, pChg := wp.pChgFb }

/-- Effective INVERTER values (R37). -/
def Intake.effInverter (x : Intake) : InverterVals :=
  if x.live .inverter then x.inverter else { x.inverter with speed := 0, motoring := 0, generating := 0 }

/-- Effective ENGINE values (R37). -/
def Intake.effEngine (x : Intake) : EngineVals :=
  if x.live .engine then x.engine else { x.engine with speed := 0, running := false, available := 0, drag := 0 }

/-- Effective CLUTCH values (R37). -/
def Intake.effClutch (x : Intake) : ClutchVals := if x.live .clutch then x.clutch else { x.clutch with state := .slipping }

/-- Effective BRAKE values (R37). -/
def Intake.effBrake (x : Intake) : BrakeVals := if x.live .brake then x.brake else ⟨0⟩

/-- Whether all six streams have left NEVER (R105). -/
def Intake.allSeen (x : Intake) : Bool :=
  [Role.demand, .battery, .inverter, .engine, .clutch, .brake].all fun r => decide ((x.streams.get r).state ≠ .never)

end Sys2Proof.Machine
end

