-- ==== Sys2Proof/Machine/Flags.lean ====
section
/-! DEFINITION. The flags and readings formed from the state: the combined consequence (R96), the CLUTCH_LOCK reading
(R97), the hold readings (R65, R151), the engine-wanted flag (R84) and the members of the binding set (R83). -/

namespace Sys2Proof.Machine

/-- The twelve source indices. -/
def sourceIndices : List (Fin 12) := [0, 1, 2, 3, 4, 5, 6, 7, 8, 9, 10, 11]

/-- The sixteen watch indices, ascending. -/
def watchIndices : List (Fin 16) := [0, 1, 2, 3, 4, 5, 6, 7, 8, 9, 10, 11, 12, 13, 14, 15]

/-- The fault-map entries, as read, of the sources in ACTIVE or AWAIT_ACK (R57, R96). -/
def entriesInForce (f : FaultUnit) (t : TableStore) : List FaultEntry :=
  (sourceIndices.filter fun i => decide (f.sources[i].state ≠ .clear)).map t.faultEntry

/-- The CLUTCH_LOCK reading (R97): some source in ACTIVE or AWAIT_ACK has CLUTCH_LOCK in its forced set. -/
def lockReading (f : FaultUnit) (t : TableStore) : Bool :=
  (entriesInForce f t).any fun e => e.forced.clutchLock

/-- The combined consequence (R96), by the first line that applies. -/
def combinedConsequence (f : FaultUnit) (t : TableStore) : Consequence :=
  let es := entriesInForce f t
  let gives (c : Consequence) : Bool := es.any fun e => decide (e.consequence = c)
  if gives .safe then .safe
  else if gives .limpEngine && gives .limpMotor then .safe
  else if gives .limpEngine && lockReading f t then .safe
  else if gives .limpEngine then .limpEngine
  else if gives .limpMotor then .limpMotor
  else .none

/-- The CLUTCH_LOCK reading of the state as it stands. -/
def State.lockReading (s : State) : Bool := Machine.lockReading s.faults s.tables

/-- The combined consequence of the state as it stands. -/
def State.consequence (s : State) : Consequence := combinedConsequence s.faults s.tables

/-- The entries of the watches in state MATCHED that pass their check (R56, R151). -/
def matchedEntries (w : WatchUnit) (t : TableStore) : List WatchEntry :=
  watchIndices.filterMap fun i =>
    match w.cells[i].state, t.watch[i] with
    | .matched, .passing e => some e
    | _, _ => none

/-- A hold reading (R65): whether a watch with this action is MATCHED. -/
def anyMatched (w : WatchUnit) (t : TableStore) (a : WatchAction) : Bool :=
  (matchedEntries w t).any fun e => decide (e.action = a)

/-- The engine-wanted flag of a cycle (R84), from its conditioned demand and interpolated share and offset: the first
case that applies gives the flag. -/
def engineWanted (cyc : CycleInputs) (prevWanted : Bool) (d e c : Int) : Bool :=
  if cyc.inhibit then false
  else if cyc.zone = true ∧ cyc.wp.socZoneFloor ≤ cyc.soc then false
  else if 0 < d ∧ (cyc.wp.eOn ≤ e ∨ 0 < c) then true
  else if cyc.soc < cyc.wp.socFloor then true
  else if cyc.hold then true
  else if d ≤ 0 ∨ e < cyc.wp.eOff then false
  else prevWanted

/-- Members recorded by a clamp into the engine lanes (R83): ENG_HI if the value was lowered, ENG_LO if raised. -/
def Binding.engClamp (b : Binding) (before after : Int) : Binding :=
  if after < before then { b with engHi := true } else if before < after then { b with engLo := true } else b

/-- Members recorded by a clamp into the motor window (R83): MOT_HI if the value was lowered, MOT_LO if raised. -/
def Binding.motClamp (b : Binding) (before after : Int) : Binding :=
  if after < before then { b with motHi := true } else if before < after then { b with motLo := true } else b

/-- The member recorded by the clamp of R76 step 3 into the slew window (R83). -/
def Binding.slewClamp (b : Binding) (before after : Int) : Binding :=
  if after = before then b else { b with engSlew := true }

/-- Members recorded by the rebalance of R78 step 5 (R83): ENG_SLEW when the bound reached is prev ± `eng_step`,
ENG_HI or ENG_LO when it is that lane, both when it equals both (DEDUCED, unsafe, log entry 17). -/
def Binding.rebalance (b : Binding) (lanes : Lanes) (prev engStep before after : Int) : Binding :=
  if after < before then
    { b with
      engSlew := b.engSlew || decide (after = prev + engStep)
      engHi := b.engHi || decide (after = lanes.engHi) }
  else if before < after then
    { b with
      engSlew := b.engSlew || decide (after = prev - engStep)
      engLo := b.engLo || decide (after = lanes.engLo) }
  else b

end Sys2Proof.Machine
end

