-- ==== Sys2Proof/Machine/LimitVector.lean ====
section
/-! DEFINITION. The Limit Vector Unit (chapter 3): the seven records and their combination. -/

namespace Sys2Proof.Machine

/-- The ENGINE record of ENGINE values (R52). -/
def engineRecord (v : EngineVals) : LimitRecord := ⟨some (satHi v.available), some (satLo v.drag), none, none⟩

/-- The INVERTER record of INVERTER values (R52). -/
def inverterRecord (v : InverterVals) : LimitRecord :=
  ⟨none, none, some (satHi v.motoring), some (satLo (-v.generating))⟩

/-- The BRAKE record of BRAKE values (R52). -/
def brakeRecord (v : BrakeVals) : LimitRecord := ⟨none, none, none, some (satLo (-v.regen))⟩

/-- The fallback ENGINE record (R52). -/
def engineFallback : LimitRecord := ⟨some 0, some 0, none, none⟩

/-- The fallback INVERTER record (R52). -/
def inverterFallback : LimitRecord := ⟨none, none, some 0, some 0⟩

/-- The fallback BRAKE record (R52). -/
def brakeFallback : LimitRecord := ⟨none, none, none, some 0⟩

/-- The effective speed of the battery conversion: the shaft speed raised to 500 (R54). -/
def nEff (speed : Int) : Int := if speed < 500 then 500 else speed

/-- MOT_HI of BATTERY before saturation (R54); the quotient of numbers that are not negative is floored. -/
def batteryMotHi (pDis etaMot speed : Int) : Int := pDis * etaMot * 955 / (1000 * nEff speed)

/-- MOT_LO of BATTERY before saturation: the floored quotient, negated (R54). -/
def batteryMotLo (pChg etaGen speed : Int) : Int := -(pChg * 1000 * 955 / (etaGen * nEff speed))

/-- The BATTERY record of a split cycle start (R53, R54). -/
def batteryRecord (wp : WorkingParams) (v : BatteryVals) (speed : Int) : LimitRecord :=
  ⟨none, none, some (satHi (batteryMotHi v.pDis wp.etaMot speed)), some (satLo (batteryMotLo v.pChg wp.etaGen speed))⟩

/-- The least of a list of values, none of an empty one. -/
def leastOf : List Int → Option Int
  | [] => none
  | x :: xs => match leastOf xs with
    | none => some x
    | some y => some (min x y)

/-- The least action value of the MATCHED watches with an action (R56). -/
def derateOf (w : WatchUnit) (t : TableStore) (a : WatchAction) : Option Int :=
  leastOf (((matchedEntries w t).filter fun e => decide (e.action = a)).map fun e => satHi e.actionValue)

/-- The WATCH record (R56). -/
def watchRecord (w : WatchUnit) (t : TableStore) : LimitRecord :=
  ⟨derateOf w t .derateEngine, none, derateOf w t .derateMotor, none⟩

/-- A lane that some source in force closes is 0, and absent otherwise (R57). -/
def forcedLane (es : List FaultEntry) (member : FaultEntry → Bool) : Option Int :=
  if es.any member then some 0 else none

/-- The FAULT record (R57, R58). -/
def faultRecord (f : FaultUnit) (t : TableStore) : LimitRecord :=
  let es := entriesInForce f t
  ⟨forcedLane es fun e => e.forced.engine, forcedLane es fun e => e.forced.engine,
   forcedLane es fun e => e.forced.motorDrive, forcedLane es fun e => e.forced.motorRegen⟩

/-- The least present value of a HI lane. Every present value lies in 0..400 (R49), so the lane's upper end, 400,
from which the search starts, changes nothing once a value is present, as STATIC's always is. -/
def leastPresent : List (Option Int) → Int
  | [] => 400
  | none :: xs => leastPresent xs
  | some x :: xs => min x (leastPresent xs)

/-- The greatest present value of a LO lane, from the lane's lower end −400. -/
def greatestPresent : List (Option Int) → Int
  | [] => -400
  | none :: xs => greatestPresent xs
  | some x :: xs => max x (greatestPresent xs)

/-- The seven records. -/
def Limits.records (x : Limits) : List LimitRecord :=
  [x.static, x.engine, x.inverter, x.battery, x.brake, x.watch, x.fault]

/-- The combined limit vector of the records (R59). -/
def Limits.combine (x : Limits) : Lanes where
  engHi := leastPresent (x.records.map LimitRecord.engHi)
  engLo := greatestPresent (x.records.map LimitRecord.engLo)
  motHi := leastPresent (x.records.map LimitRecord.motHi)
  motLo := greatestPresent (x.records.map LimitRecord.motLo)

/-- The records brought up to date at a split cycle start, stages 1 to 4 of R60. -/
def State.recordsAtStart (s : State) : Limits :=
  { s.limits with
    engine := if s.intake.live .engine then s.limits.engine else engineFallback
    inverter := if s.intake.live .inverter then s.limits.inverter else inverterFallback
    brake := if s.intake.live .brake then s.limits.brake else brakeFallback
    battery := batteryRecord s.tables.wp (s.intake.effBattery s.tables.wp) s.intake.effInverter.speed
    watch := watchRecord s.watch s.tables
    fault := faultRecord s.faults s.tables }

/-- The Limit Vector Unit's work at a split cycle start (R60): the records, then the combination. -/
def State.updateLimits (s : State) : State :=
  let x := s.recordsAtStart
  s.setLimits { x with combined := x.combine }

end Sys2Proof.Machine
end

