-- ==== Sys2Proof/Machine/RegimeControl.lean ====
section
/-! DEFINITION. The Regime Controller (chapter 5): settling at a cycle start (R99), the completion tests (R100), the
ENGINE and CLUTCH acceptances and the expiries of its five timers. -/

namespace Sys2Proof.Machine

/-- What the Regime Controller reads at a split cycle start (R95): the combined consequence, the CLUTCH_LOCK reading,
the effective READY, shaft speed, engine running flag and clutch state, whether ENGINE is LAPSED (R119), and whether
STANDBY may be left: the conditions of R105 on READY, the active bank, the pin-reset walk and the streams hold, and a
cycle has started since the last reset (R127). -/
structure SettleInputs where
  cons : Consequence
  lock : Bool
  ready : Bool
  speed : Int
  running : Bool
  clutch : ClutchState
  engineLapsed : Bool
  mayLeaveStandby : Bool
  deriving DecidableEq, Repr

/-- A stall (R119). -/
def RegimeState.stall (wp : WorkingParams) (r : RegimeState) : RegimeState :=
  match r.mode with
  | .syncIdle | .syncMatch | .hybridLocking | .hybridShared => r.enterToward wp .releaseOpening .electric
  | .releaseRampDown => r.enter wp .releaseOpening
  | .limpEngineDrive => r.enter wp .limpEngineStart
  | .standby | .electric | .crankStarter | .crankClutch | .releaseOpening | .limpEngineStart | .limpMotor | .safe => r

/-- Step 2 of R99: the transitions of a clear READY (R104). -/
def RegimeState.settleReady (wp : WorkingParams) (i : SettleInputs) (r : RegimeState) : RegimeState :=
  if i.ready then r
  else match r.mode with
    | .standby | .safe => r
    | .electric | .crankStarter | .crankClutch | .limpEngineStart | .limpEngineDrive | .limpMotor =>
      r.enter wp .standby
    | .syncIdle | .syncMatch => r.enterToward wp .releaseOpening .standby
    | .hybridLocking | .hybridShared => r.enterToward wp .releaseRampDown .standby
    | .releaseRampDown | .releaseOpening => { r with dest := .standby }

/-- Entry to LIMP_ENGINE, its phase from the effective running flag (R120). -/
def RegimeState.enterLimpEngine (wp : WorkingParams) (i : SettleInputs) (r : RegimeState) : RegimeState :=
  r.enter wp (if i.running then .limpEngineDrive else .limpEngineStart)

/-- Step 3 of R99: the LIMP regimes are entered (R105, R120, R122) and left (R121, R122). -/
def RegimeState.settleLimp (wp : WorkingParams) (i : SettleInputs) (r : RegimeState) : RegimeState :=
  match i.cons with
  | .safe => r
  | .limpEngine =>
    if r.mode = .standby then (if i.mayLeaveStandby then r.enterLimpEngine wp i else r)
    else if r.mode.regime = .limpEngine then r
    else r.enterLimpEngine wp i
  | .limpMotor =>
    if r.mode = .standby then (if i.mayLeaveStandby then r.enter wp .limpMotor else r)
    else if r.mode = .limpMotor then r
    else r.enter wp .limpMotor
  | .none =>
    match r.mode with
    | .limpEngineDrive =>
      if i.clutch = .locked ∧ i.lock = false then r.enter wp .hybridShared else r.enter wp (syncModeFor wp i.speed)
    | .limpEngineStart | .limpMotor => r.enter wp .electric
    | .standby | .electric | .crankStarter | .crankClutch | .syncIdle | .syncMatch | .hybridLocking | .hybridShared
    | .releaseRampDown | .releaseOpening | .safe => r

/-- Step 4 of R99: STANDBY enters ELECTRIC (R105), but not at the first start after a reset (R127, R168; DEDUCED,
unsafe, log entry 23). -/
def RegimeState.settleStandbyExit (wp : WorkingParams) (i : SettleInputs) (r : RegimeState) : RegimeState :=
  if r.mode = .standby ∧ i.cons = .none ∧ i.mayLeaveStandby = true then r.enter wp .electric else r

/-- Step 5 of R99: the CLUTCH_LOCK moves (R97). -/
def RegimeState.settleLock (wp : WorkingParams) (i : SettleInputs) (r : RegimeState) : RegimeState :=
  if i.lock then
    match r.mode with
    | .hybridLocking | .hybridShared => r.enterToward wp .releaseOpening .electric
    | .releaseRampDown => r.enter wp .releaseOpening
    | .standby | .electric | .crankStarter | .crankClutch | .syncIdle | .syncMatch | .releaseOpening
    | .limpEngineStart | .limpEngineDrive | .limpMotor | .safe => r
  else r

/-- Step 6 of R99, first part: the SYNC phase is set from the shaft speed (R111). -/
def RegimeState.settleSyncPhase (wp : WorkingParams) (i : SettleInputs) (r : RegimeState) : RegimeState :=
  if r.mode.regime = .sync ∧ r.mode ≠ syncModeFor wp i.speed then r.enter wp (syncModeFor wp i.speed) else r

/-- Step 6 of R99, second part: the unlock-speed moves (R115, R117). -/
def RegimeState.settleUnlock (wp : WorkingParams) (i : SettleInputs) (r : RegimeState) : RegimeState :=
  if i.speed < wp.unlockSpeed then
    match r.mode with
    | .hybridLocking | .hybridShared => r.enter wp .syncIdle
    | .releaseRampDown => r.enter wp .releaseOpening
    | .standby | .electric | .crankStarter | .crankClutch | .syncIdle | .syncMatch | .releaseOpening
    | .limpEngineStart | .limpEngineDrive | .limpMotor | .safe => r
  else r

/-- Step 6 of R99, third part: a lapsed ENGINE stream is taken as a stall (R119). -/
def RegimeState.settleStall (wp : WorkingParams) (i : SettleInputs) (r : RegimeState) : RegimeState :=
  if i.engineLapsed then r.stall wp else r

/-- Settling at a split cycle start (R99). Step 1 ends it when the combined consequence is SAFE, and when the regime
is SAFE, which is left as R124 states. -/
def RegimeState.settle (wp : WorkingParams) (i : SettleInputs) (r : RegimeState) : RegimeState :=
  if i.cons = .safe then
    (if r.mode = .standby ∨ r.mode = .safe then r else r.enter wp .safe)
  else if r.mode = .safe then
    (if i.ready then r else r.enter wp .standby)
  else
    (((((((r.settleReady wp i).settleLimp wp i).settleStandbyExit wp i).settleLock wp i).settleSyncPhase wp i
      ).settleUnlock wp i).settleStall wp i)

/-- The conditions of R105 other than the combined consequence, and that a cycle has started since the last reset:
R127 and R168 have the first one fixed in STANDBY, where R105 alone would leave STANDBY at that very start if every
other stream had been accepted and the bank verified before the first DEMAND frame (DEDUCED, unsafe, log entry 23). -/
def State.mayLeaveStandby (s : State) : Bool :=
  s.split.started && s.intake.effDemand.ready && s.tables.verified s.tables.selector && !s.tables.walk.isPinReset &&
    s.intake.allSeen

/-- The readings of a split cycle start (R95). -/
def State.settleInputs (s : State) : SettleInputs where
  cons := s.consequence
  lock := s.lockReading
  ready := s.intake.effDemand.ready
  speed := s.intake.effInverter.speed
  running := s.intake.effEngine.running
  clutch := s.intake.effClutch.state
  engineLapsed := decide (s.intake.streams.engine.state = .lapsed)
  mayLeaveStandby := s.mayLeaveStandby

/-- The Regime Controller settles its regime for the cycle (R99). -/
def State.settle (s : State) : State := s.setRegime (s.regime.settle s.tables.wp s.settleInputs)

/-! ### Cycle completion (R100) -/

/-- The dwell counts after a completed cycle (R100). -/
def RegimeState.countDwell (wanted : Bool) (r : RegimeState) : RegimeState :=
  if wanted then { r with want := min (r.want + 1) 255, unwant := 0 }
  else { r with unwant := min (r.unwant + 1) 65535, want := 0 }

/-- What the completion tests read beside the regime state. -/
structure CompletionInputs where
  cycleMode : Mode
  cycleSpeed : Int
  engineCmd : Int
  wanted : Bool
  lock : Bool
  crankFailClear : Bool
  engineFresh : Bool
  deriving DecidableEq, Repr

/-- Whether a dwell release of a running engine is due: unwant_count at `off_dwell` and the min-run state not RUNNING
(R103, R113, R116). -/
def RegimeState.releaseDue (wp : WorkingParams) (r : RegimeState) : Bool :=
  decide (wp.offDwell ≤ (r.unwant : Int)) &&
    match r.minRun with
    | .running _ => false
    | .idle | .expired => true

/-- Whether ELECTRIC may enter CRANK (R106). -/
def RegimeState.crankAllowed (wp : WorkingParams) (i : CompletionInputs) (r : RegimeState) : Bool :=
  decide (wp.onDwell ≤ (r.want : Int)) && !r.retryT.isRunning && i.crankFailClear &&
    decide ((r.attempts : Int) < wp.crankAttemptsMax) && i.engineFresh

/-- The completion test of the regime and phase standing (R100): ELECTRIC (R106), SYNC (R113), HYBRID SHARED (R116),
and RELEASE RAMP_DOWN when the cycle was fixed in it (R117, R101). -/
def RegimeState.completionTest (wp : WorkingParams) (i : CompletionInputs) (r : RegimeState) : RegimeState :=
  match r.mode with
  | .electric =>
    if r.crankAllowed wp i then r.enter wp (if i.cycleSpeed < wp.lockSpeedMin then .crankStarter else .crankClutch)
    else r
  | .syncIdle | .syncMatch => if r.releaseDue wp then r.enterToward wp .releaseOpening .electric else r
  | .hybridShared => if r.releaseDue wp then r.enterToward wp .releaseRampDown .electric else r
  | .releaseRampDown =>
    if i.cycleMode ≠ .releaseRampDown then r
    else if i.wanted = true ∧ r.dest = .electric ∧ i.lock = false then r.enter wp .hybridShared
    else if i.engineCmd = 0 then r.enter wp .releaseOpening
    else r
  | .standby | .crankStarter | .crankClutch | .hybridLocking | .releaseOpening | .limpEngineStart | .limpEngineDrive
  | .limpMotor | .safe => r

/-! ### Acceptances -/

/-- The running confirmation: running flag set and engine speed at least `idle_confirm` (R108). -/
def runningConfirmed (wp : WorkingParams) (v : EngineVals) : Bool := v.running && decide (wp.idleConfirm ≤ v.speed)

/-- The match test of SYNC MATCH (R112): the count after the report, and HYBRID LOCKING when it reaches
`sync_confirm`, unless the CLUTCH_LOCK reading refuses the entry and holds the count there. -/
def RegimeState.matchTest (wp : WorkingParams) (v : EngineVals) (speed : Int) (lock : Bool) (r : RegimeState) :
    RegimeState :=
  if wp.syncWindow < ((v.speed - speed).natAbs : Int) then { r with matchCount := 0 }
  else if ((r.matchCount + 1 : Nat) : Int) < wp.syncConfirm then { r with matchCount := r.matchCount + 1 }
  else
    let r := { r with matchCount := wp.syncConfirm.toNat }
    if lock then r else r.enter wp .hybridLocking

/-- An ENGINE acceptance (R108, R112, R119, R120), with the effective shaft speed and the CLUTCH_LOCK reading at that
moment. -/
def RegimeState.engineReport (wp : WorkingParams) (v : EngineVals) (speed : Int) (lock : Bool) (r : RegimeState) :
    RegimeState :=
  match r.mode with
  | .crankStarter | .crankClutch =>
    if runningConfirmed wp v then (r.startMinRun wp).enter wp (syncModeFor wp speed) else r
  | .limpEngineStart => if runningConfirmed wp v then (r.startMinRun wp).enter wp .limpEngineDrive else r
  | .syncMatch => if v.running then r.matchTest wp v speed lock else r.stall wp
  | .syncIdle | .hybridLocking | .hybridShared | .releaseRampDown | .limpEngineDrive =>
    if v.running then r else r.stall wp
  | .standby | .electric | .releaseOpening | .limpMotor | .safe => r

/-- The regime a destination names. -/
def Destination.mode : Destination → Mode
  | .electric => .electric
  | .standby => .standby

/-- A CLUTCH acceptance (R114, R118). -/
def RegimeState.clutchReport (wp : WorkingParams) (c : ClutchState) (r : RegimeState) : RegimeState :=
  match r.mode, c with
  | .hybridLocking, .locked => r.enter wp .hybridShared
  | .releaseOpening, .isOpen => r.enter wp r.dest.mode
  | _, _ => r

/-! ### Timer expiries -/

/-- Crank timer expiry (R109, R120). In CRANK the attempt count rises, reaching `crank_attempts_max` raises and
removes CRANK_FAIL in the one event (R132), the regime enters ELECTRIC and the retry timer starts when `retry_wait` is
above 0; in LIMP_ENGINE START the regime enters SAFE. The raise and the removal go by the table of R135 (DEDUCED,
unsafe, log entry 18). -/
def State.crankExpiry (s : State) : State :=
  let wp := s.tables.wp
  let r := { s.regime with crankT := .stopped }
  match s.regime.mode with
  | .crankStarter | .crankClutch =>
    let n := s.regime.attempts + 1
    let r := { r.enter wp .electric with
      attempts := n
      retryT := if wp.retryWait ≤ 0 then r.retryT else .start wp.retryWait }
    let s := s.setRegime r
    if (n : Int) = wp.crankAttemptsMax then (s.raiseFault srcCrankFail).removeFault srcCrankFail else s
  | .limpEngineStart => s.setRegime (r.enter wp .safe)
  | _ => s.setRegime r

/-- CRANK_TIMER_EXPIRY (R109, R120): a stopped timer does not expire (R1). -/
def execCrankTimerExpiry (s : State) : Host.Outcome State Fault Refusal :=
  .next (s.unlessReset (if s.regime.crankT.isRunning then s.crankExpiry else s))

/-- SYNC_TIMER_EXPIRY (R113): in MATCH the regime enters RELEASE OPENING with destination ELECTRIC. -/
def execSyncTimerExpiry (s : State) : Host.Outcome State Fault Refusal :=
  .next (s.unlessReset
    (if s.regime.syncT.isRunning then
      let r := { s.regime with syncT := .stopped }
      s.setRegime (if r.mode = .syncMatch then r.enterToward s.tables.wp .releaseOpening .electric else r)
    else s))

/-- CLUTCH_TIMER_EXPIRY (R114, R118, R131): the timer stops and the timeout part of CLUTCH_FAULT is raised; the regime
stays. -/
def execClutchTimerExpiry (s : State) : Host.Outcome State Fault Refusal :=
  .next (s.unlessReset
    (if s.regime.clutchT.isRunning then
      let s := s.setRegime { s.regime with clutchT := .stopped }
      match s.regime.mode with
      | .hybridLocking | .releaseOpening =>
        s.setFaults (s.faults.set srcClutchFault s.faults.sources[srcClutchFault].raisedTimeout)
      | _ => s
    else s))

/-- RETRY_TIMER_EXPIRY (R107): the timer stops and nothing more. -/
def execRetryTimerExpiry (s : State) : Host.Outcome State Fault Refusal :=
  .next (s.unlessReset (if s.regime.retryT.isRunning then s.setRegime { s.regime with retryT := .stopped } else s))

/-- MIN_RUN_EXPIRY (R103): RUNNING becomes EXPIRED. -/
def execMinRunExpiry (s : State) : Host.Outcome State Fault Refusal :=
  .next (s.unlessReset
    (match s.regime.minRun with
    | .running _ => s.setRegime { s.regime with minRun := .expired }
    | .idle | .expired => s))

end Sys2Proof.Machine
end

