-- ==== Sys2Proof/Machine/WatchEval.lean ====
section
/-! DEFINITION. The Watch Unit (chapter 7): evaluation, firing, the notice queue, and the reading of the watch table at
a split cycle start. -/

namespace Sys2Proof.Machine

/-- Whether the regime is in an entry's mask (R143, R201). -/
def WatchEntry.covers (e : WatchEntry) (r : Regime) : Bool := e.mask.getLsbD r.code

/-- The true test of R147. -/
def WatchEntry.isTrue (e : WatchEntry) (v : Int) (r : Regime) : Bool :=
  e.covers r &&
    match e.comparison with
    | .above => decide (e.threshold ≤ v)
    | .below => decide (v ≤ e.threshold)

/-- The false-past-hysteresis test of R147. -/
def WatchEntry.isPast (e : WatchEntry) (v : Int) (r : Regime) : Bool :=
  !e.covers r ||
    match e.comparison with
    | .above => decide (v < e.threshold - e.hysteresis)
    | .below => decide (e.threshold + e.hysteresis < v)

/-- The state of a watch after an evaluation of its enabled entry (R148). -/
def WatchState.evaluated (st : WatchState) (isTrue isPast : Bool) : WatchState :=
  match st with
  | .disabled => .disabled
  | .waiting => if isTrue then .waiting else .idle
  | .idle => if isTrue then .matched else .idle
  | .matched => if isPast && !isTrue then .idle else .matched

/-- A notice offered to the notice queue (R150). -/
def WatchUnit.offer (w : WatchUnit) (n : QueuedNotice) : WatchUnit :=
  if w.queue.length < 8 then { w with queue := w.queue ++ [n] } else { w with overflow := true }

/-- What one evaluating event brings (R144): the values of the quantities it concerns. -/
abbrev Evaluation := List (Quantity × Int)

/-- The value an event gives a quantity, if it concerns it. -/
def Evaluation.value : Evaluation → Quantity → Option Int
  | [], _ => none
  | (q', v) :: rest, q => if q' = q then some v else Evaluation.value rest q

/-- Evaluation of one watch at an event (R144, R147 to R149). An entry found failing is held DISABLED, its fired flag
kept (R153); whether the event is one of its undetermined quantity is open, so a failing entry that is not yet
DISABLED is found at this event or not (DEDUCED, safe, log entry 7). -/
def WatchUnit.evaluateOne (t : TableStore) (ev : Evaluation) (mode : Mode) (count : BitVec 16) (freeIx : Nat)
    (w : WatchUnit) (i : Fin 16) : WatchUnit :=
  let cell := w.cells[i]
  match t.watch[i] with
  | .failing =>
    if cell.state = .disabled then w
    else if Config.upsetWatchConcerned freeIx i then { w with cells := w.cells.set i { cell with state := .disabled } }
    else w
  | .passing e =>
    match ev.value e.quantity with
    | none => w
    | some v =>
      if e.enable then
        let st := cell.state.evaluated (e.isTrue v mode.regime) (e.isPast v mode.regime)
        let fires := decide (cell.state = .idle) && decide (st = .matched)
        let w' := { w with cells := w.cells.set i ⟨st, cell.fired || fires⟩ }
        if fires = true ∧ e.action = .notify ∧ cell.fired = false then
          w'.offer ⟨identOf t.wp.idWatchNotice, ⟨i, e.quantity, e.comparison, v, e.threshold, mode, count⟩⟩
        else w'
      else w

/-- Evaluation of all watches at an event, in ascending index order (R144, R150). -/
def WatchUnit.evaluate (t : TableStore) (ev : Evaluation) (mode : Mode) (count : BitVec 16) (freeIx : Nat)
    (w : WatchUnit) : WatchUnit :=
  watchIndices.foldl (WatchUnit.evaluateOne t ev mode count freeIx) w

/-- An evaluating event of the state: the cycle count is that of the last completed cycle (R149), and one free value
index is used up. -/
def State.evaluateWatches (s : State) (ev : Evaluation) (mode : Mode) : State :=
  (s.setWatch (s.watch.evaluate s.tables ev mode s.split.count s.freeIx)).setFreeIx (s.freeIx + 1)

/-- A watch as the reading of the watch table at a split cycle start leaves it (R153). -/
def heldDisabled (e : Checked WatchEntry) (cell : WatchCell) : WatchCell :=
  match e with
  | .passing _ => cell
  | .failing => { cell with state := .disabled }

/-- The reading of the watch table at a split cycle start: every failing entry is held DISABLED (R153). -/
def State.readWatchTable (s : State) : State :=
  s.setWatch { s.watch with cells := Vector.ofFn fun i : Fin 16 => heldDisabled s.tables.watch[i] s.watch.cells[i] }

end Sys2Proof.Machine
end

