-- ==== Sys2Proof/Machine/IntakeUnit.lean ====
section
/-! DEFINITION. Signal Intake (chapter 2): acceptance and discard of a delivered frame, what an acceptance hands on
(R45), and the deadline, hold and fill-in expiries. -/

namespace Sys2Proof.Machine

/-- The verdict on a delivered frame (R28): the first test that fails, or none. -/
def discardReason (m : StreamMeta) (f : Frame) : Option DiscardReason :=
  if f.data.length ≠ 8 then some .length
  else if f.data.getD 7 0 ≠ checkByte f.id (f.data.take 7) then some .check
  else if m.state ≠ .never ∧ m.counter = some (counterOf f.data) then some .repeated
  else none

/-- Replaces what the stream table holds for a role beside its values. -/
def State.setStream (s : State) (r : Role) (m : StreamMeta) : State :=
  s.setIntake { s.intake with streams := s.intake.streams.set r m }

/-- A discarded frame changes the last discard reason and nothing else (R30). -/
def State.discardFrame (s : State) (r : Role) (why : DiscardReason) : State :=
  s.setStream r { s.intake.streams.get r with discard := why }

/-- The decoded values replace the stored values of the role all together (R31). -/
def Intake.store (x : Intake) (r : Role) (data : List Byte) : Intake :=
  match r with
  | .demand => { x with demand := decodeDemand data }
  | .battery => { x with battery := decodeBattery data }
  | .inverter => { x with inverter := decodeInverter data }
  | .engine => { x with engine := decodeEngine data }
  | .clutch => { x with clutch := decodeClutch data }
  | .brake => { x with brake := decodeBrake data }

/-- The stream entry after an acceptance (R38): FRESH, the counter recorded, the deadline started, the hold stopped
and the lapse condition absent. -/
def acceptedMeta (wp : WorkingParams) (r : Role) (m : StreamMeta) (data : List Byte) : StreamMeta :=
  { m with
    state := .fresh
    counter := some (counterOf data)
    deadline := .start (wp.deadlineOf r)
    hold := .stopped
    lapse := false }

/-- The first part of an acceptance: values stored, state and timers set (R31, R38), the fill-in timer stopped for
DEMAND, and the removal of the lapse source handed to the Fault Unit when the stream was LAPSED (R129), before the
acceptance is handed on (DEDUCED, unsafe, log entry 19). -/
def State.storeFrame (s : State) (r : Role) (data : List Byte) : State :=
  let m := s.intake.streams.get r
  let x := { s.intake.store r data with
    streams := s.intake.streams.set r (acceptedMeta s.tables.wp r m data)
    fillIn := if r = .demand then .stopped else s.intake.fillIn }
  let s := s.setIntake x
  if m.state = .lapsed then s.removeFault (lapseSource r) else s

/-- The start of a split cycle is issued; it takes the place of a start that waits (R65). -/
def State.issueStart (s : State) (k : CycleKind) : State := s.setSplit { s.split with waiting := some k }

/-- What a BATTERY acceptance hands on (R45). -/
def State.handBattery (s : State) : State :=
  let v := s.intake.battery
  (s.handFlag srcContactorOpen (!v.contactorClosed)).evaluateWatches [(.soc, v.soc), (.battTemp, v.temp)]
    s.regime.mode

/-- What an INVERTER acceptance hands on (R45, R51). -/
def State.handInverter (s : State) : State :=
  let v := s.intake.inverter
  let s := s.handFlag srcInverterFault v.fault
  (s.setLimits { s.limits with inverter := inverterRecord v }).evaluateWatches
    [(.shaftSpeed, v.speed), (.motorTemp, v.temp)] s.regime.mode

/-- What an ENGINE acceptance hands on (R45, R51). The Fault Unit, the Regime Controller and the Watch Unit take it in
an order the manual leaves open (R45, R138, R147): the CLUTCH_LOCK reading of the match test and the regime of a
COOLANT_TEMP evaluation are each taken before or after the other block's change (DEDUCED, safe, log entry 6). -/
def State.handEngine (s : State) : State :=
  let v := s.intake.engine
  let lockBefore := s.lockReading
  let s := s.handFlag srcEngineFault v.fault
  let s := s.setLimits { s.limits with engine := engineRecord v }
  let lock := openChoice (Config.regimeBeforeFault s.freeIx) lockBefore s.lockReading
  let modeBefore := s.regime.mode
  let s := s.setRegime (s.regime.engineReport s.tables.wp v s.intake.effInverter.speed lock)
  s.evaluateWatches [(.coolantTemp, v.temp)]
    (openChoice (Config.watchBeforeRegime s.freeIx) modeBefore s.regime.mode)

/-- What a CLUTCH acceptance hands on (R45, R36). -/
def State.handClutch (s : State) : State :=
  let v := s.intake.clutch
  let s := s.handFlag srcClutchFault v.fault
  s.setRegime (s.regime.clutchReport s.tables.wp v.state)

/-- What a BRAKE acceptance hands on (R45, R51). -/
def State.handBrake (s : State) : State := s.setLimits { s.limits with brake := brakeRecord s.intake.brake }

/-- What an acceptance hands on to the neighbouring blocks (R45). -/
def State.handAcceptance (s : State) : Role → State
  | .demand => s.issueStart .demand
  | .battery => s.handBattery
  | .inverter => s.handInverter
  | .engine => s.handEngine
  | .clutch => s.handClutch
  | .brake => s.handBrake

/-- A frame delivered to a stream entry (R27, R28). -/
def State.deliver (s : State) (r : Role) (f : Frame) : State :=
  match discardReason (s.intake.streams.get r) f with
  | some why => s.discardFrame r why
  | none => (s.storeFrame r f.data).handAcceptance r

/-! ### Expiries -/

/-- A stream goes to LAPSED: its timers are stopped, its lapse condition is made present and handed to the Fault Unit
(R40, R129). -/
def State.lapse (s : State) (r : Role) : State :=
  let m := s.intake.streams.get r
  (s.setStream r { m with state := .lapsed, deadline := .stopped, hold := .stopped, lapse := true }).raiseFault
    (lapseSource r)

/-- A deadline expiry (R39): to HELD with the hold timer started, or straight to LAPSED when the hold parameter is 0;
for DEMAND the fill-in timer starts (R43). -/
def State.deadlineExpired (s : State) (r : Role) : State :=
  let wp := s.tables.wp
  let m := s.intake.streams.get r
  let s := if r = .demand then s.setIntake { s.intake with fillIn := .start wp.fillPeriod } else s
  if wp.holdOf r ≤ 0 then s.lapse r
  else s.setStream r { m with state := .held, deadline := .stopped, hold := .start (wp.holdOf r) }

/-- DEADLINE_EXPIRY (R39): a stopped timer does not expire (R1). -/
def execDeadlineExpiry (r : Role) (s : State) : Host.Outcome State Fault Refusal :=
  .next (s.unlessReset (if (s.intake.streams.get r).deadline.isRunning then s.deadlineExpired r else s))

/-- HOLD_EXPIRY (R40). -/
def execHoldExpiry (r : Role) (s : State) : Host.Outcome State Fault Refusal :=
  .next (s.unlessReset (if (s.intake.streams.get r).hold.isRunning then s.lapse r else s))

/-- FILL_IN_EXPIRY (R43): the timer is restarted and a FILL_IN start is issued. -/
def execFillInExpiry (s : State) : Host.Outcome State Fault Refusal :=
  .next (s.unlessReset
    (if s.intake.fillIn.isRunning then
      (s.setIntake { s.intake with fillIn := .start s.tables.wp.fillPeriod }).issueStart .fillIn
    else s))

end Sys2Proof.Machine
end

