-- ==== Sys2Proof/Machine/Entries.lean ====
section
/-! DEFINITION. Table entries as management names them (section 10.2): which indices and field numbers exist (R185),
the stored fields of an entry as numbers (R186), what a WRITE of one field makes of an entry (R187, R188), and the
entry reset (R8, R9). -/

namespace Sys2Proof.Machine

/-! ### Addressing (R185) -/

/-- Whether the index lies in the range of the table (R185). -/
def TableName.hasIndex (t : TableName) (i : Nat) : Bool :=
  match t with
  | .bank b => decide (i < b.size)
  | .live l => decide (i < l.size)

/-- The number of stored fields of an entry (R185). -/
def TableName.fieldCount (t : TableName) (i : Nat) : Nat :=
  match t with
  | .bank b => b.fields
  | .live .forward => if i = 47 then 2 else 5
  | .live .watch => 8
  | .live .faultMap => 3

/-- Whether the field number names a stored field of the entry (R185). -/
def TableName.hasStored (t : TableName) (i field : Nat) : Bool :=
  decide (1 ≤ field ∧ field ≤ TableName.fieldCount t i)

/-! ### Stored fields as numbers (R186, R201) -/

/-- The stored fields of a bank entry. -/
def BankFields.numbers (f : BankFields) : List Int := [f.f1, f.f2]

/-- The stored fields of a forwarding lookup entry (R169). -/
def FwdEntry.numbers (e : FwdEntry) : List Int :=
  [bit e.valid, (Port.code e.port : Int), (e.id.toNat : Int), (e.action.code : Int), (roleCode e.role : Int)]

/-- The stored fields of the port defaults record (R170). -/
def PortDefaults.numbers (e : PortDefaults) : List Int := [(e.u.code : Int), (e.d.code : Int)]

/-- The stored fields of a watch entry (R143). -/
def WatchEntry.numbers (e : WatchEntry) : List Int :=
  [bit e.enable, (e.quantity.code : Int), (e.comparison.code : Int), e.threshold, e.hysteresis, (e.mask.toNat : Int),
   (e.action.code : Int), e.actionValue]

/-- The stored fields of a fault-map entry (R134). -/
def FaultEntry.numbers (e : FaultEntry) : List Int :=
  [e.forced.bits, (e.consequence.code : Int), (e.clearMode.code : Int)]

/-- The stored fields of an entry that passes its check, none of one that fails it (R7). -/
def Checked.numbers {α : Type} (e : Checked α) (f : α → List Int) : Option (List Int) :=
  match e with
  | .passing x => some (f x)
  | .failing => none

/-- The entry of a live table at an index, as its stored fields; beyond the table it reads as failing. -/
def TableStore.liveNumbers (t : TableStore) (l : LiveTable) (i : Nat) : Option (List Int) :=
  match l with
  | .forward =>
    if i = 47 then t.portDefaults.numbers PortDefaults.numbers
    else (t.forward[i]?.getD .failing).numbers FwdEntry.numbers
  | .watch => (t.watch[i]?.getD .failing).numbers WatchEntry.numbers
  | .faultMap => (t.faultMap[i]?.getD .failing).numbers FaultEntry.numbers

/-- An entry as a request reads it (R186): the stored fields, or none when it fails its check. The bank is read as the
selector names it at that moment (R185). -/
def TableStore.entryNumbers (t : TableStore) (b : BankSel) (name : TableName) (i : Nat) : Option (List Int) :=
  match name with
  | .bank tbl => ((t.bank (t.named b)).read tbl i).numbers BankFields.numbers
  | .live l => t.liveNumbers l i

/-- The number a field of an entry holds; field numbers start at 1. -/
def fieldOf (ns : List Int) (field : Nat) : Int := ns.getD (field - 1) 0

/-! ### The value of a WRITE (R202) -/

/-- Whether the field is signed: `eng_lo_cap`, `mot_lo_cap` and the watch threshold (R202). -/
def signedField (name : TableName) (i field : Nat) : Bool :=
  match name with
  | .bank .param => decide (i = 3 ∨ i = 5)
  | .live .watch => decide (field = 4)
  | .bank _ | .live _ => false

/-- The number a 24-bit value carries to a field (R202). -/
def writtenValue (name : TableName) (i field : Nat) (v : Value24) : Int :=
  if signedField name i field then v.toInt else (v.toNat : Int)

/-- A number as a 24-bit value: two's complement when it is negative (R202). -/
def replyValue (v : Int) : Value24 := BitVec.ofInt 24 v

/-! ### Writing one field (R187, R188) -/

/-- A bank entry with one field replaced, if the value lies in the field's range (R188). -/
def BankFields.write (tbl : BankTable) (i field : Nat) (v : Int) (f : BankFields) : Option BankFields :=
  let r := fieldRange tbl i field
  if r.1 ≤ v ∧ v ≤ r.2 then some (if field = 1 then { f with f1 := v } else { f with f2 := v }) else none

/-- A flag field's value (R188). -/
def flagOfCode (v : Int) : Option Bool := if v = 0 then some false else if v = 1 then some true else none

/-- A forwarding lookup entry with one field replaced, if the value has a meaning (R188). -/
def FwdEntry.write (field : Nat) (v : Int) (e : FwdEntry) : Option FwdEntry :=
  match field with
  | 1 => (flagOfCode v).map fun x => { e with valid := x }
  | 2 => (Port.ofCode v).map fun x => { e with port := x }
  | 3 => if 0 ≤ v ∧ v ≤ 0x7FF then some { e with id := BitVec.ofInt 11 v } else none
  | 4 => (FwdAction.ofCode v).map fun x => { e with action := x }
  | 5 => (roleOfCode v).map fun x => { e with role := x }
  | _ => none

/-- Whether two lookup entries may not stand together (R171): both valid, with the same arrival port and identifier
or the same role. -/
def FwdEntry.clashes (x y : FwdEntry) : Bool :=
  x.valid && y.valid &&
    (decide (x.port = y.port ∧ x.id = y.id) || (decide (x.role ≠ none) && decide (x.role = y.role)))

/-- Whether a lookup entry, standing at index `i`, clashes with another passing entry of the table (R171). -/
def TableStore.fwdClash (t : TableStore) (i : Nat) (e : FwdEntry) : Bool :=
  (List.finRange 47).any fun j =>
    decide (j.val ≠ i) &&
      match t.forward[j] with
      | .passing x => e.clashes x
      | .failing => false

/-- The port defaults record with one field replaced (R170). -/
def PortDefaults.write (field : Nat) (v : Int) (e : PortDefaults) : Option PortDefaults :=
  match field with
  | 1 => (DefaultAction.ofCode v).map fun x => { e with u := x }
  | 2 => (DefaultAction.ofCode v).map fun x => { e with d := x }
  | _ => none

/-- Threshold range of a watch quantity (R144). -/
def Quantity.range : Quantity → Int × Int
  | .soc => (0, 1000)
  | .battTemp => (-40, 100)
  | .shaftSpeed => (0, 7000)
  | .motorTemp => (-40, 200)
  | .coolantTemp => (-40, 150)
  | .demand => (-600, 600)
  | .unmet => (-600, 800)

/-- The threshold of a watch entry lies within the range of its quantity (R144, R145). -/
def WatchEntry.thresholdOk (e : WatchEntry) : Bool :=
  decide (e.quantity.range.1 ≤ e.threshold ∧ e.threshold ≤ e.quantity.range.2)

/-- A watch entry with one field replaced, if the value has a meaning or lies in its range (R188); the threshold is
tested apart. -/
def WatchEntry.write (field : Nat) (v : Int) (e : WatchEntry) : Option WatchEntry :=
  match field with
  | 1 => (flagOfCode v).map fun x => { e with enable := x }
  | 2 => (Quantity.ofCode v).map fun x => { e with quantity := x }
  | 3 => (Comparison.ofCode v).map fun x => { e with comparison := x }
  | 4 => some { e with threshold := v }
  | 5 => if 0 ≤ v ∧ v ≤ 500 then some { e with hysteresis := v } else none
  | 6 => if 0 ≤ v ∧ v ≤ 511 then some { e with mask := BitVec.ofInt 9 v } else none
  | 7 => (WatchAction.ofCode v).map fun x => { e with action := x }
  | 8 => if 0 ≤ v ∧ v ≤ 400 then some { e with actionValue := v } else none
  | _ => none

/-- A fault-map entry with one field replaced (R188). -/
def FaultEntry.write (field : Nat) (v : Int) (e : FaultEntry) : Option FaultEntry :=
  match field with
  | 1 => (ForcedSet.ofBits v).map fun x => { e with forced := x }
  | 2 => (Consequence.ofCode v).map fun x => { e with consequence := x }
  | 3 => (ClearMode.ofCode v).map fun x => { e with clearMode := x }
  | _ => none

/-- A bank entry after a WRITE of one field; none when the entry fails its check or the value fails R188. -/
def TableStore.bankWritten (t : TableStore) (b : BankName) (tbl : BankTable) (i field : Nat) (v : Int) :
    Option BankFields :=
  match (t.bank b).read tbl i with
  | .passing f => f.write tbl i field v
  | .failing => none

/-- A lookup entry after a WRITE of one field, tested for uniqueness as it would stand (R171). -/
def TableStore.fwdWritten (t : TableStore) (i field : Nat) (v : Int) : Option FwdEntry :=
  match t.forward[i]?.getD .failing with
  | .passing e => (e.write field v).filter fun x => !t.fwdClash i x
  | .failing => none

/-- The port defaults record after a WRITE of one field. -/
def TableStore.defaultsWritten (t : TableStore) (field : Nat) (v : Int) : Option PortDefaults :=
  match t.portDefaults with
  | .passing e => e.write field v
  | .failing => none

/-- A watch entry after a WRITE of one field, its threshold tested against its quantity (R145). -/
def TableStore.watchWritten (t : TableStore) (i field : Nat) (v : Int) : Option WatchEntry :=
  match t.watch[i]?.getD .failing with
  | .passing e => (e.write field v).filter WatchEntry.thresholdOk
  | .failing => none

/-- A fault-map entry after a WRITE of one field. -/
def TableStore.faultWritten (t : TableStore) (i field : Nat) (v : Int) : Option FaultEntry :=
  match t.faultMap[i]?.getD .failing with
  | .passing e => e.write field v
  | .failing => none

/-- The state of a watch after an accepted WRITE of its entry: WAITING if the entry is enabled now, else DISABLED; the
fired flag is kept (R152). -/
def WatchUnit.written (w : WatchUnit) (i : Nat) (enabled : Bool) : WatchUnit :=
  { w with
    cells := w.cells.setIfInBounds i
      ⟨if enabled then .waiting else .disabled, (w.cells[i]?.map WatchCell.fired).getD false⟩ }

/-- A bank entry is written with a fresh check code (R7), which clears the bank's verified flag (R10). -/
def TableStore.putBank (t : TableStore) (b : BankName) (tbl : BankTable) (i : Nat) (f : BankFields) : TableStore :=
  (t.writeBank b tbl i (.passing f)).setVerified b false

/-- A WRITE of field 1 or higher to an entry (R187), with its effect on the entry's owner; none when the entry fails
its check or the value fails R188. -/
def State.writeField (s : State) (name : TableName) (i field : Nat) (v : Int) : Option State :=
  let t := s.tables
  match name with
  | .bank tbl => (t.bankWritten t.shadow tbl i field v).map fun f => s.setTables (t.putBank t.shadow tbl i f)
  | .live .forward =>
    if i = 47 then (t.defaultsWritten field v).map fun e => s.setTables { t with portDefaults := .passing e }
    else (t.fwdWritten i field v).map fun e =>
      s.setTables { t with forward := t.forward.setIfInBounds i (.passing e) }
  | .live .watch => (t.watchWritten i field v).map fun e =>
      (s.setTables { t with watch := t.watch.setIfInBounds i (.passing e) }).setWatch (s.watch.written i e.enable)
  | .live .faultMap => (t.faultWritten i field v).map fun e =>
      s.setTables { t with faultMap := t.faultMap.setIfInBounds i (.passing e) }

/-- The entry reset (R8, R9, R187): cleared values, or the power-on default of its source for a fault-map entry
(R134), with a fresh check code. -/
def State.resetEntry (s : State) (name : TableName) (i : Nat) : State :=
  let t := s.tables
  match name with
  | .bank tbl => s.setTables (t.putBank t.shadow tbl i clearedBankFields)
  | .live .forward =>
    if i = 47 then s.setTables { t with portDefaults := .passing clearedPortDefaults }
    else s.setTables { t with forward := t.forward.setIfInBounds i (.passing clearedFwdEntry) }
  | .live .watch =>
    (s.setTables { t with watch := t.watch.setIfInBounds i (.passing clearedWatchEntry) }).setWatch
      (s.watch.written i false)
  | .live .faultMap =>
    s.setTables { t with faultMap := t.faultMap.setIfInBounds i (.passing (defaultFaultEntry (Fin.ofNat 12 i))) }

end Sys2Proof.Machine
end

