-- ==== Sys2Proof/Machine/Status.lean ====
section
/-! DEFINITION. The status snapshot (section 10.7): the lines of its eight pages as R196 and R202 lay them out, and
the capture (R195, R197). -/

namespace Sys2Proof.Machine

/-- A value in a STATUS line: `n` bits from bit `lo` up, two's complement when it is negative (R202). -/
def lineBits (lo n : Nat) (v : Int) : Value24 := putBits 24 lo n v

/-- The fields of a line put together. -/
def lineOf (fields : List Value24) : Value24 := fields.foldr (· ||| ·) 0

/-- A set of flags, bit `n` for member `n` (R201). -/
def setBits (flags : List Bool) : Int :=
  match flags with
  | [] => 0
  | b :: bs => bit b + 2 * setBits bs

/-! ### Page 0: summary -/

/-- The fired and not-CLEAR sets and the summary line 0 (R202). The regime and phase are those standing at the capture
(R197; DEDUCED, unsafe, log entry 11). -/
def State.summaryLine0 (s : State) (q : Requester) : Value24 :=
  lineOf
    [lineBits 0 4 s.regime.mode.code, lineBits 4 1 (BankName.code s.tables.selector),
     lineBits 5 1 (bit s.tables.verifiedA), lineBits 6 1 (bit s.tables.verifiedB),
     lineBits 7 1 (bit s.tables.swapPending), lineBits 8 2 s.tables.walk.code,
     lineBits 10 1 (bit s.tables.copyRunning), lineBits 11 1 (bit s.tables.cellFault.flag),
     lineBits 12 1 (bit (s.mgmt.get q).overrun), lineBits 13 1 (bit s.watch.overflow),
     lineBits 14 1 (bit s.forward.u.overflow), lineBits 15 1 (bit s.forward.d.overflow)]

/-- Summary line 1: the fault sources not CLEAR and the number of notices in the queue (R202). -/
def State.summaryLine1 (s : State) : Value24 :=
  lineOf
    [lineBits 0 12 (setBits (sourceIndices.map fun i => decide (s.faults.sources[i].state ≠ .clear))),
     lineBits 12 4 (s.watch.queue.length : Nat)]

/-- Summary line 2: the bank last walked and the failure record, empty when the walk has not failed (R202). The table
and index bits of an empty record are 0, as its reason is (DESIGN CHOICE, unsafe, log entry 26). -/
def State.summaryLine2 (s : State) : Value24 :=
  let failure : List Value24 :=
    match s.tables.walk with
    | .failed f =>
      [lineBits 1 4 (TableName.code (.bank f.table)), lineBits 5 8 (f.index : Nat), lineBits 13 3 f.reason.code]
    | .idle | .running _ _ _ | .passed => []
  lineOf (lineBits 0 1 (BankName.code s.tables.walkedBank) :: failure)

/-! ### Page 1: faults -/

/-- The line of a source (R202): its state and condition, and its fault-map entry as read, with the mark of an entry
that fails its check (R141). -/
def State.faultLine (s : State) (i : Fin 12) : Value24 :=
  let x := s.faults.sources[i]
  let e := s.tables.faultEntry i
  lineOf
    [lineBits 0 2 x.state.code, lineBits 2 1 (bit x.cond), lineBits 3 1 (bit x.timeout), lineBits 4 4 e.forced.bits,
     lineBits 8 2 e.consequence.code, lineBits 10 1 e.clearMode.code,
     lineBits 11 1 (bit (decide (s.tables.faultMap[i] = .failing)))]

/-! ### Page 2: streams -/

/-- The five lines of a stream (R202) from what the stream table holds and its stored and effective values. The counter
bits of an absent counter are 0 (DESIGN CHOICE, unsafe, log entry 26). -/
def streamLines (m : StreamMeta) (stored effective : DataWord) (flags effFlags : Nibble) : List Value24 :=
  [lineOf
    [lineBits 0 2 m.state.code, lineBits 2 4 ((m.counter.getD 0).toNat : Nat), lineBits 6 1 (bit m.counter.isSome),
     lineBits 7 2 m.discard.code, lineBits 9 1 (bit m.lapse), lineBits 10 4 (flags.toNat : Nat),
     lineBits 14 4 (effFlags.toNat : Nat)],
   stored.extractLsb' 0 24, stored.extractLsb' 24 24, effective.extractLsb' 0 24, effective.extractLsb' 24 24]

/-- The thirty lines of the streams page, in the order of R196. -/
def State.streamPage (s : State) : List Value24 :=
  let x := s.intake
  let wp := s.tables.wp
  streamLines x.streams.demand (wordDemand x.demand) (wordDemand x.effDemand) (flagsDemand x.demand)
      (flagsDemand x.effDemand) ++
    streamLines x.streams.battery (wordBattery x.battery) (wordBattery (x.effBattery wp)) (flagsBattery x.battery)
      (flagsBattery (x.effBattery wp)) ++
    streamLines x.streams.inverter (wordInverter x.inverter) (wordInverter x.effInverter) (flagsInverter x.inverter)
      (flagsInverter x.effInverter) ++
    streamLines x.streams.engine (wordEngine x.engine) (wordEngine x.effEngine) (flagsEngine x.engine)
      (flagsEngine x.effEngine) ++
    streamLines x.streams.clutch (wordClutch x.clutch) (wordClutch x.effClutch) (flagsClutch x.clutch)
      (flagsClutch x.effClutch) ++
    streamLines x.streams.brake (wordBrake x.brake) (wordBrake x.effBrake) 0 0

/-! ### Pages 3 to 5: split records -/

/-- Line 9 of a split record page: the cell-fault record (R202). -/
def CellFault.line (c : CellFault) : Value24 :=
  lineOf
    [lineBits 0 1 (bit c.flag), lineBits 1 1 (BankName.code c.bank), lineBits 2 2 (c.band : Nat),
     lineBits 4 4 (c.speedIndex : Nat), lineBits 8 4 (c.demandIndex : Nat)]

/-- The ten lines of a split record page (R202). -/
def SplitRecord.lines (r : SplitRecord) (c : CellFault) : List Value24 :=
  [lineOf [lineBits 0 4 r.mode.code, lineBits 4 5 r.binding.bits, lineBits 9 12 r.driverShare],
   lineOf [lineBits 0 16 (r.count.toNat : Nat), lineBits 16 1 r.kind.code, lineBits 17 2 (r.band : Nat),
     lineBits 19 1 (bit r.wanted)],
   lineOf [lineBits 0 13 r.speed, lineBits 13 10 r.soc],
   lineOf [lineBits 0 12 r.d, lineBits 12 12 r.u],
   lineOf [lineBits 0 10 r.e, lineBits 10 8 r.c],
   lineOf [lineBits 0 12 r.engRaw, lineBits 12 12 r.engineShare],
   lineOf [lineBits 0 12 r.lanes.engHi, lineBits 12 12 r.lanes.engLo],
   lineOf [lineBits 0 12 r.lanes.motHi, lineBits 12 12 r.lanes.motLo],
   lineOf [lineBits 0 12 r.engineCmd, lineBits 12 12 r.motorCmd],
   c.line]

/-! ### Pages 6 and 7 -/

/-- The seventeen lines of the watch page (R202): a watch is shown in the state the Watch Unit holds (R197). -/
def WatchUnit.lines (w : WatchUnit) : List Value24 :=
  watchIndices.map (fun i => lineOf [lineBits 0 2 w.cells[i].state.code, lineBits 2 1 (bit w.cells[i].fired)]) ++
    [lineBits 0 16 (setBits (watchIndices.map fun i => w.cells[i].fired))]

/-- Lines 0 and 1 of the ports page (R202). -/
def PortState.countLine (x : PortState) : Value24 :=
  lineOf [lineBits 0 2 x.error.code, lineBits 2 9 (x.txCount : Nat), lineBits 11 8 (x.rxCount : Nat)]

/-- Lines 2 and 3 of the ports page (R202). -/
def PortState.queueLine (x : PortState) (f : ForwardQueue) : Value24 :=
  lineOf [lineBits 0 8 (x.recovery : Nat), lineBits 8 5 (f.frames.length : Nat), lineBits 13 1 (bit f.overflow)]

/-! ### The capture -/

/-- The number of lines of each page (R196). -/
def pageSize : Nat → Nat
  | 0 => 3
  | 1 => 12
  | 2 => 30
  | 3 | 4 | 5 => 10
  | 6 => 17
  | 7 => 4
  | _ => 0

/-- The snapshot of the state as it stands, for a requester (R195, R196). -/
def State.snapshot (s : State) (q : Requester) : Snapshot :=
  ⟨[[s.summaryLine0 q, s.summaryLine1, s.summaryLine2],
    sourceIndices.map s.faultLine,
    s.streamPage,
    s.split.history.newest.lines s.tables.cellFault,
    s.split.history.middle.lines s.tables.cellFault,
    s.split.history.oldest.lines s.tables.cellFault,
    s.watch.lines,
    [s.ports.port.u.countLine, s.ports.port.d.countLine, s.ports.port.u.queueLine s.forward.u,
     s.ports.port.d.queueLine s.forward.d]]⟩

/-- A line of a snapshot. -/
def Snapshot.line (x : Snapshot) (page line : Nat) : Value24 := (x.pages.getD page []).getD line 0

/-- Replaces what the Management Unit holds for a requester. -/
def State.setRequester (s : State) (q : Requester) (x : RequesterState) : State := s.setMgmt (s.mgmt.set q x)

/-- The capture (R195): the new snapshot replaces the requester's former one, and its overrun flag, captured as it
stood, is cleared. -/
def State.capture (s : State) (q : Requester) : State :=
  s.setRequester q { s.mgmt.get q with overrun := false, snapshot := some (s.snapshot q) }

end Sys2Proof.Machine
end

