-- ==== Sys2Proof/Machine/Management.lean ====
section
/-! DEFINITION. The Management Unit (chapter 10): the overrun test and the reply of each request taken (R182, R183),
the order of the tests (R184), and the kinds of request, one meaning for each row of the table. -/

namespace Sys2Proof.Machine

/-! ### Tests and answers -/

/-- The status a list of tests gives (R184): each pairs a status with whether its test fails, in order; the first that
fails gives the status, and OK when none does. -/
def firstStatus : List (Status × Bool) → Status
  | [] => .ok
  | (st, fails) :: rest => if fails then st else firstStatus rest

/-- How a request is answered: the status and value of its reply, and the state it leaves (R183). -/
structure Answer where
  status : Status
  value : Value24
  state : State
  deriving DecidableEq, Repr

/-- The answer of a request whose tests gave a status: applied when it is OK, and otherwise refused with value 0 and
nothing changed (R183). -/
def answerWith (s : State) (st : Status) (value : Value24) (t : State) : Answer :=
  if st = .ok then ⟨.ok, value, t⟩ else ⟨st, 0, s⟩

/-- The field number of a request as a number. -/
def Request.fieldNo (r : Request) : Nat := r.field.toNat

/-- The index of a request as a number. -/
def Request.indexNo (r : Request) : Nat := r.index.toNat

/-- The table a request names. -/
def Request.tableName (r : Request) : Option TableName := TableName.ofCode r.table.toNat

/-- Whether the regime is STANDBY or SAFE (R190). -/
def State.inStandbyOrSafe (s : State) : Bool := decide (s.regime.mode = .standby ∨ s.regime.mode = .safe)

/-- The service tool's limit of R190 for writes, COPY, COMMIT and CANCEL: STANDBY or SAFE; the supervisory controller
has none. -/
def State.wrongRegimeFor (s : State) (q : Requester) : Bool :=
  match q with
  | .supervisor => false
  | .service => !s.inStandbyOrSafe

/-- Whether an operation of the Table Store is in flight: a walk or a copy (R189). -/
def State.walkOrCopy (s : State) : Bool := s.tables.walk.isRunning || s.tables.copyRunning

/-- The interlock of shadow writes, COPY and COMMIT (R189). -/
def State.bankBusy (s : State) : Bool := s.walkOrCopy || s.tables.swapPending

/-! ### Holds (R191, R192) -/

/-- The hold record a live entry would have; a bank entry is never held. -/
def heldNameOf (name : TableName) (i : Nat) : Option HeldEntry :=
  match name with
  | .bank _ => none
  | .live l => some ⟨l, i⟩

/-- Whether the requester holds a live entry other than the named one (R191). -/
def State.holdsOther (s : State) (q : Requester) (name : TableName) (i : Nat) : Bool :=
  match (s.mgmt.get q).hold, heldNameOf name i with
  | some h, some n => decide (h ≠ n)
  | _, _ => false

/-- Whether the requester holds the named live entry. -/
def State.holds (s : State) (q : Requester) (name : TableName) (i : Nat) : Bool :=
  match (s.mgmt.get q).hold, heldNameOf name i with
  | some h, some n => decide (h = n)
  | _, _ => false

/-- The edit window in ms (R191). -/
def editWindow : Nat := 500

/-- The requester's hold names an entry and its window starts at 500 ms (R191). -/
def State.holdEntry (s : State) (q : Requester) (h : HeldEntry) : State :=
  s.setRequester q { s.mgmt.get q with hold := some h, window := .running editWindow }

/-- The holder's window restarts when its write to the held entry is applied (R192). -/
def State.renewIfHeld (s : State) (q : Requester) (name : TableName) (i : Nat) : State :=
  if s.holds q name i then s.setRequester q { s.mgmt.get q with window := .running editWindow } else s

/-- The requester's hold record is emptied and its window stopped (R193). -/
def State.emptyHold (s : State) (q : Requester) : State :=
  s.setRequester q { s.mgmt.get q with hold := none, window := .stopped }

/-! ### READ and READ_HOLD (R185, R186, R191) -/

/-- The tests of a READ, in the order of R184. -/
def State.readTests (s : State) (r : Request) (name : TableName) : List (Status × Bool) :=
  [(.badIndex, !TableName.hasIndex name r.indexNo),
   (.badField, !TableName.hasStored name r.indexNo r.fieldNo),
   (.checkFailed, (s.tables.entryNumbers r.bank name r.indexNo).isNone)]

/-- The value a READ answered OK carries (R186). -/
def State.readValue (s : State) (r : Request) (name : TableName) : Value24 :=
  replyValue (fieldOf ((s.tables.entryNumbers r.bank name r.indexNo).getD []) r.fieldNo)

/-- The answer to a READ (R186). -/
def State.answerRead (s : State) (r : Request) : Answer :=
  match r.tableName with
  | none => ⟨.badRequest, 0, s⟩
  | some name => answerWith s (firstStatus (s.readTests r name)) (s.readValue r name) s

/-- The tests of a READ_HOLD of a live table, in the order of R184. -/
def State.readHoldTests (s : State) (q : Requester) (r : Request) (l : LiveTable) : List (Status × Bool) :=
  let name := TableName.live l
  [(.badIndex, !TableName.hasIndex name r.indexNo),
   (.badField, !TableName.hasStored name r.indexNo r.fieldNo),
   (.holdPending, s.holdsOther q name r.indexNo),
   (.held, s.holds q.other name r.indexNo),
   (.checkFailed, (s.tables.entryNumbers r.bank name r.indexNo).isNone)]

/-- The answer to a READ_HOLD (R191): a hold is made or renewed only when it is answered OK. -/
def State.answerReadHold (s : State) (q : Requester) (r : Request) : Answer :=
  match r.tableName with
  | some (.live l) =>
    answerWith s (firstStatus (s.readHoldTests q r l)) (s.readValue r (.live l)) (s.holdEntry q ⟨l, r.indexNo⟩)
  | some (.bank _) | none => ⟨.badRequest, 0, s⟩

/-! ### WRITE (R187, R188, R190, R192) -/

/-- Whether a forwarding lookup entry's role is set: its stored role is other than none, or it fails its check
(R190). Entry 47 holds no role. -/
def TableStore.roleSet (t : TableStore) (i : Nat) : Bool :=
  if i = 47 then false
  else match t.forward[i]?.getD .failing with
    | .passing e => e.role.isSome
    | .failing => true

/-- The limits of R190 on a WRITE of field `field`. -/
def State.writeForbidden (s : State) (q : Requester) (name : TableName) (i field : Nat) : Bool :=
  match name with
  | .live .faultMap => !s.inStandbyOrSafe
  | .live .forward =>
    if s.tables.roleSet i || decide (field = 5) then decide (s.regime.mode ≠ .standby) else s.wrongRegimeFor q
  | .live .watch => s.wrongRegimeFor q
  | .bank _ => s.wrongRegimeFor q

/-- Whether a table is a bank table. -/
def TableName.isBank : TableName → Bool
  | .bank _ => true
  | .live _ => false

/-- The tests of a WRITE, in the order of R184; those of the check and of the value apply to field 1 and higher. -/
def State.writeTests (s : State) (q : Requester) (r : Request) (name : TableName) : List (Status × Bool) :=
  let i := r.indexNo
  let field := r.fieldNo
  [(.badIndex, !TableName.hasIndex name i),
   (.badField, decide (field ≠ 0) && !TableName.hasStored name i field),
   (.wrongBank, TableName.isBank name && decide (r.bank = .active)),
   (.wrongRegime, s.writeForbidden q name i field),
   (.busy, TableName.isBank name && s.bankBusy),
   (.holdPending, s.holdsOther q name i),
   (.held, s.holds q.other name i),
   (.checkFailed, decide (field ≠ 0) && (s.tables.entryNumbers .shadow name i).isNone),
   (.badValue, decide (field ≠ 0) && (s.writeField name i field (writtenValue name i field r.value)).isNone)]

/-- The state an applied WRITE leaves (R187, R192). -/
def State.writeApplied (s : State) (q : Requester) (r : Request) (name : TableName) : State :=
  let t := if r.field = 0 then s.resetEntry name r.indexNo
    else (s.writeField name r.indexNo r.fieldNo (writtenValue name r.indexNo r.fieldNo r.value)).getD s
  t.renewIfHeld q name r.indexNo

/-- The value a WRITE answered OK carries: the value the field holds after it, 0 for field 0 (R183). -/
def writeValue (r : Request) (name : TableName) : Value24 :=
  if r.field = 0 then 0 else replyValue (writtenValue name r.indexNo r.fieldNo r.value)

/-- The answer to a WRITE (R187). -/
def State.answerWrite (s : State) (q : Requester) (r : Request) : Answer :=
  match r.tableName with
  | none => ⟨.badRequest, 0, s⟩
  | some name =>
    answerWith s (firstStatus (s.writeTests q r name)) (writeValue r name) (s.writeApplied q r name)

/-! ### RELEASE, COPY, COMMIT, CANCEL (R193, R189) -/

/-- The answer to a RELEASE (R193): OK whether an entry was held or not. -/
def State.answerRelease (s : State) (q : Requester) : Answer := ⟨.ok, 0, s.emptyHold q⟩

/-- A copy starts (R15): the shadow's verified flag is cleared at once. -/
def State.startCopy (s : State) : State :=
  s.setTables { s.tables.setVerified s.tables.shadow false with copy := some 0 }

/-- The answer to a COPY (R15, R189, R190). -/
def State.answerCopy (s : State) (q : Requester) : Answer :=
  answerWith s (firstStatus [(.wrongRegime, s.wrongRegimeFor q), (.busy, s.bankBusy)]) 0 s.startCopy

/-- A commit walk of the shadow starts (R11). -/
def State.startCommit (s : State) : State :=
  s.setTables { s.tables with walk := .running .commit 0 [], walkedBank := s.tables.shadow }

/-- The answer to a COMMIT (R11, R189, R190). -/
def State.answerCommit (s : State) (q : Requester) : Answer :=
  answerWith s (firstStatus [(.wrongRegime, s.wrongRegimeFor q), (.busy, s.bankBusy)]) 0 s.startCommit

/-- The answer to a CANCEL (R21, R189, R190). -/
def State.answerCancel (s : State) (q : Requester) : Answer :=
  answerWith s (firstStatus [(.wrongRegime, s.wrongRegimeFor q), (.busy, s.walkOrCopy)]) 0
    (s.setTables { s.tables with swapPending := false })

/-! ### ACK (R194) -/

/-- A source after an ACK (R135): CLEAR unless it is ACTIVE. -/
def FaultSource.acked (x : FaultSource) : FaultSource :=
  match x.state with
  | .active => x
  | .clear | .awaitAck => { x with state := .clear }

/-- The answer to an ACK of target FAULT (R135, R137): an OK for CRANK_FAIL sets the attempt count to 0 (R110). -/
def State.answerAckFault (s : State) (i : Nat) : Answer :=
  if h : i < 12 then
    let x := s.faults.sources[i]
    if x.state = .active then ⟨.conditionPresent, replyValue x.state.code, s⟩
    else
      let t := s.setFaults (s.faults.set ⟨i, h⟩ x.acked)
      ⟨.ok, replyValue x.acked.state.code,
       if i = srcCrankFail.val then t.setRegime { t.regime with attempts := 0 } else t⟩
  else ⟨.badIndex, 0, s⟩

/-- The answer to an ACK of target WATCH (R155). -/
def State.answerAckWatch (s : State) (i : Nat) : Answer :=
  if h : i < 16 then
    ⟨.ok, 0, s.setWatch { s.watch with cells := s.watch.cells.set i { s.watch.cells[i] with fired := false } }⟩
  else ⟨.badIndex, 0, s⟩

/-- The answer to an ACK of target CELL (R23). -/
def State.answerAckCell (s : State) : Answer := ⟨.ok, 0, s.setTables { s.tables with cellFault := emptyCellFault }⟩

/-- The answer to an ACK of target FLAGS (R194, R175, R150). -/
def State.answerAckFlags (s : State) : Answer :=
  ⟨.ok, 0, (s.setForward ⟨{ s.forward.u with overflow := false }, { s.forward.d with overflow := false }⟩).setWatch
    { s.watch with overflow := false }⟩

/-- The answer to an ACK: its field number names the target (R194). -/
def State.answerAck (s : State) (r : Request) : Answer :=
  match r.fieldNo with
  | 1 => s.answerAckFault r.indexNo
  | 2 => s.answerAckWatch r.indexNo
  | 3 => s.answerAckCell
  | 4 => s.answerAckFlags
  | _ => ⟨.badField, 0, s⟩

/-! ### STATUS (R195, R196) -/

/-- The answer to a STATUS request: page 0 line 0 captures and returns the new snapshot's line, every other names a
line of the snapshot as captured, or is refused while it is empty. -/
def State.answerStatus (s : State) (q : Requester) (r : Request) : Answer :=
  if 8 ≤ r.fieldNo then ⟨.badField, 0, s⟩
  else if pageSize r.fieldNo ≤ r.indexNo then ⟨.badIndex, 0, s⟩
  else if r.fieldNo = 0 ∧ r.indexNo = 0 then ⟨.ok, (s.snapshot q).line 0 0, s.capture q⟩
  else match (s.mgmt.get q).snapshot with
    | some x => ⟨.ok, x.line r.fieldNo r.indexNo, s⟩
    | none => ⟨.badRequest, 0, s⟩

/-! ### Taking a request (R181 to R183) -/

/-- The answer to a request that passed the overrun test. -/
def State.answer (s : State) (q : Requester) (r : Request) : Answer :=
  match r.kind with
  | none => ⟨.badRequest, 0, s⟩
  | some .read => s.answerRead r
  | some .readHold => s.answerReadHold q r
  | some .write => s.answerWrite q r
  | some .release => s.answerRelease q
  | some .copy => s.answerCopy q
  | some .commit => s.answerCommit q
  | some .cancel => s.answerCancel q
  | some .ack => s.answerAck r
  | some .status => s.answerStatus q r

/-- The management base of a strap code (R173): 0x6A0, 0x6B0, 0x6C0 or 0x6D0. -/
def mgmtBase (strap : BitVec 2) : Nat := 0x6A0 + 0x10 * strap.toNat

/-- The identifier of a requester's requests (R173). -/
def requestIdent (strap : BitVec 2) (q : Requester) : Ident :=
  match q with
  | .supervisor => BitVec.ofNat 11 (mgmtBase strap)
  | .service => BitVec.ofNat 11 (mgmtBase strap + 1)

/-- The identifier of a requester's replies (R157, R173). -/
def replyIdent (strap : BitVec 2) (q : Requester) : Ident :=
  match q with
  | .supervisor => BitVec.ofNat 11 (mgmtBase strap + 2)
  | .service => BitVec.ofNat 11 (mgmtBase strap + 3)

/-- The reply to a request (R183). -/
def replyOf (s : State) (q : Requester) (r : Request) (a : Answer) : Content :=
  ⟨replyIdent s.strapId q, .reply r.tag r.table r.field r.index a.value a.status⟩

/-- A request arrives (R182): it is discarded with the overrun flag set while its requester's reply slot is not EMPTY,
and otherwise answered, its reply placed at the same event. -/
def State.takeRequest (s : State) (q : Requester) (r : Request) : State :=
  if s.ports.slots.get (replySlot q) = .empty then
    let a := s.answer q r
    a.state.place (replySlot q) (replyOf s q r a)
  else s.setRequester q { s.mgmt.get q with overrun := true }

/-- A request given to the Management Unit as a command: it is not received while a reset is applied (R198) or Port U
is BUS_OFF (R179). Given so, no receive count moves (DESIGN CHOICE, safe, log entry 10). -/
def State.request (s : State) (q : Requester) (r : Request) : State :=
  s.unlessReset (if s.ports.port.u.error = .busOff then s else s.takeRequest q r)

/-- A table's code as four bits. -/
def tableNibble (t : TableName) : Nibble := BitVec.ofNat 4 (TableName.code t)

/-! ### The rows of the table -/

/-- MALFORMED_REQUEST (R184 order 1). -/
def execMalformedRequest (q : Requester) (bytes : List Byte) (s : State) : Host.Outcome State Fault Refusal :=
  .next (s.request q (Request.ofBytes bytes))

/-- READ (R186). -/
def execRead (q : Requester) (tag : Byte) (bank : BankSel) (table : TableName) (index : Byte) (field : Nibble)
    (s : State) : Host.Outcome State Fault Refusal :=
  .next (s.request q ⟨some .read, tag, bank, tableNibble table, field, index, 0⟩)

/-- READ_HOLD (R191): its bank field is not read (R181). -/
def execReadHold (q : Requester) (tag : Byte) (table : TableName) (index : Byte) (field : Nibble) (s : State) :
    Host.Outcome State Fault Refusal :=
  .next (s.request q ⟨some .readHold, tag, .active, tableNibble table, field, index, 0⟩)

/-- WRITE (R187). -/
def execWrite (q : Requester) (tag : Byte) (bank : BankSel) (table : TableName) (index : Byte) (field : Nibble)
    (value : Value24) (s : State) : Host.Outcome State Fault Refusal :=
  .next (s.request q ⟨some .write, tag, bank, tableNibble table, field, index, value⟩)

/-- ENTRY_RESET (R8): a WRITE of field 0, with any value. -/
def execEntryReset (q : Requester) (tag : Byte) (bank : BankSel) (table : TableName) (index : Byte) (value : Value24)
    (s : State) : Host.Outcome State Fault Refusal :=
  .next (s.request q ⟨some .write, tag, bank, tableNibble table, 0, index, value⟩)

/-- RELEASE (R193): it reads no field of the request and echoes them. -/
def execRelease (q : Requester) (tag : Byte) (echo : Echo) (s : State) : Host.Outcome State Fault Refusal :=
  .next (s.request q ⟨some .release, tag, .active, echo.table, echo.field, echo.index, 0⟩)

/-- COPY (R15). -/
def execCopy (q : Requester) (tag : Byte) (echo : Echo) (s : State) : Host.Outcome State Fault Refusal :=
  .next (s.request q ⟨some .copy, tag, .active, echo.table, echo.field, echo.index, 0⟩)

/-- COMMIT (R11). -/
def execCommit (q : Requester) (tag : Byte) (echo : Echo) (s : State) : Host.Outcome State Fault Refusal :=
  .next (s.request q ⟨some .commit, tag, .active, echo.table, echo.field, echo.index, 0⟩)

/-- CANCEL (R21). -/
def execCancel (q : Requester) (tag : Byte) (echo : Echo) (s : State) : Host.Outcome State Fault Refusal :=
  .next (s.request q ⟨some .cancel, tag, .active, echo.table, echo.field, echo.index, 0⟩)

/-- ACK_FAULT (R137): field number 1 names the target (R194). -/
def execAckFault (q : Requester) (tag : Byte) (table : Nibble) (index : Byte) (s : State) :
    Host.Outcome State Fault Refusal :=
  .next (s.request q ⟨some .ack, tag, .active, table, 1, index, 0⟩)

/-- ACK_WATCH (R155): field number 2. -/
def execAckWatch (q : Requester) (tag : Byte) (table : Nibble) (index : Byte) (s : State) :
    Host.Outcome State Fault Refusal :=
  .next (s.request q ⟨some .ack, tag, .active, table, 2, index, 0⟩)

/-- ACK_CELL (R23): field number 3. -/
def execAckCell (q : Requester) (tag : Byte) (table : Nibble) (index : Byte) (s : State) :
    Host.Outcome State Fault Refusal :=
  .next (s.request q ⟨some .ack, tag, .active, table, 3, index, 0⟩)

/-- ACK_FLAGS (R194): field number 4. -/
def execAckFlags (q : Requester) (tag : Byte) (table : Nibble) (index : Byte) (s : State) :
    Host.Outcome State Fault Refusal :=
  .next (s.request q ⟨some .ack, tag, .active, table, 4, index, 0⟩)

/-- STATUS_CAPTURE (R195): page 0, line 0. -/
def execStatusCapture (q : Requester) (tag : Byte) (table : Nibble) (s : State) : Host.Outcome State Fault Refusal :=
  .next (s.request q ⟨some .status, tag, .active, table, 0, 0, 0⟩)

/-- STATUS_READ (R196). -/
def execStatusRead (q : Requester) (tag : Byte) (table : Nibble) (page : Nibble) (line : Byte) (s : State) :
    Host.Outcome State Fault Refusal :=
  .next (s.request q ⟨some .status, tag, .active, table, page, line, 0⟩)

/-- EDIT_WINDOW_EXPIRY (R193): a stopped window does not expire (R1). -/
def execEditWindowExpiry (q : Requester) (s : State) : Host.Outcome State Fault Refusal :=
  .next (s.unlessReset (if (s.mgmt.get q).window.isRunning then s.emptyHold q else s))

end Sys2Proof.Machine
end

