-- ==== Sys2Proof/Machine/Forwarding.lean ====
section
/-! DEFINITION. The Forwarding Unit (chapter 9): classification of a received frame against the management identifiers
and the forwarding table, and the actions. -/

namespace Sys2Proof.Machine

/-- Whether an entry matches a frame (R174): valid, with the frame's arrival port and identifier. -/
def FwdEntry.isMatch (e : FwdEntry) (p : Port) (id : Ident) : Bool := e.valid && decide (e.port = p ∧ e.id = id)

/-- The first passing lookup entry of a list that matches (R174); R171 allows at most one. -/
def firstMatch (p : Port) (id : Ident) : List (Checked FwdEntry) → Option FwdEntry
  | [] => none
  | .failing :: rest => firstMatch p id rest
  | .passing e :: rest => if e.isMatch p id then some e else firstMatch p id rest

/-- What a frame that passed the management test takes (R174): the action and role of the entry it matches, or the
default action of its arrival port. -/
def TableStore.classify (t : TableStore) (p : Port) (id : Ident) : FwdAction × Option Role :=
  match firstMatch p id t.forward.toList with
  | some e => (e.action, e.role)
  | none =>
    match t.defaultAction p with
    | .pass => (.pass, none)
    | .drop => (.drop, none)

/-- A consumed frame is delivered under the entry's role, if one is set (R174, R27). -/
def State.deliverRole (s : State) (role : Option Role) (f : Frame) : State :=
  match role with
  | some r => s.deliver r f
  | none => s

/-- The action of R174 on a frame received on port `p`. -/
def State.act (s : State) (p : Port) (f : Frame) (action : FwdAction) (role : Option Role) : State :=
  match action with
  | .pass => s.offerForward p.other f
  | .consume => s.deliverRole role f
  | .consumePass => (s.offerForward p.other f).deliverRole role f
  | .drop => s

/-- What the classifier makes of an identifier (R173): a request of a requester, a reply identifier, or none of the
four management identifiers. -/
inductive MgmtUse where
  | request (q : Requester)
  | reply
  | other
  deriving DecidableEq, Repr

/-- The management test (R173). -/
def mgmtUse (strap : BitVec 2) (id : Ident) : MgmtUse :=
  if id = requestIdent strap .supervisor then .request .supervisor
  else if id = requestIdent strap .service then .request .service
  else if id = replyIdent strap .supervisor ∨ id = replyIdent strap .service then .reply
  else .other

/-- A received frame is classified (R173, R174). -/
def State.classifyFrame (s : State) (p : Port) (f : Frame) : State :=
  match mgmtUse s.strapId f.id with
  | .request q =>
    match p with
    | .portU => s.takeRequest q (Request.ofBytes f.data)
    | .portD => s
  | .reply => s
  | .other =>
    let x := s.tables.classify p f.id
    s.act p f x.1 x.2

/-- Whether the port receives (R173): not in BUS_OFF. -/
def State.receives (s : State) (p : Port) : Bool := decide ((s.ports.port.get p).error ≠ .busOff)

/-- The receive count after a frame of another node is received whole (R176). -/
def State.countReceived (s : State) (p : Port) : State := s.setPort p (s.ports.port.get p).receivedWhole

/-- FRAME_RECEIVED (R173): a classic data frame has at most 8 data bytes, and a port in BUS_OFF receives nothing. The
receive count and the error state move before the frame is classified, an order R176 leaves open (DESIGN CHOICE, unsafe,
log entry 25). -/
def execFrameReceived (p : Port) (f : Frame) (s : State) : Host.Outcome State Fault Refusal :=
  .next (s.unlessReset
    (if s.receives p = true ∧ f.data.length ≤ 8 then (s.countReceived p).classifyFrame p f else s))

/-- NON_DATA_FRAME_DISCARD (R173): the frame is acknowledged and discarded without classification; it is a frame of
another node received whole, so the receive count moves (R176; DEDUCED, unsafe, log entry 13). -/
def execNonDataFrameDiscard (p : Port) (_kind : NonDataKind) (s : State) : Host.Outcome State Fault Refusal :=
  .next (s.unlessReset (if s.receives p then s.countReceived p else s))

end Sys2Proof.Machine
end

