-- ==== Sys2Proof/Machine/Resets.lean ====
section
/-! DEFINITION. The resets (section 0.4.5, R203): the start of each and the end, with what every block takes. -/

namespace Sys2Proof.Machine

/-- Every block but the Table Store as either reset leaves it (R47, R64, R92, R127, R142, R156, R168, R180, R198);
SAFE_N is low while the reset is applied (R125). The straps keep their readings until the reset's end (R203). After a
PIN reset the watch states are formed here, at its start: an enabled entry that an upset strikes while the reset is
applied keeps the WAITING formed from it until the first read of R153 finds it failing, where R156 has each failing
entry DISABLED after the reset (DESIGN CHOICE, unsafe, log entry 28). -/
def State.resetBlocks (s : State) (t : TableStore) (k : ResetKind) : State :=
  { s with
    tables := t
    intake := resetIntake
    limits := resetLimits
    split := resetSplit
    regime := resetRegime true
    faults := resetFaults
    watch := resetWatch t.watch
    ports := resetPorts
    forward := ⟨resetQueue, resetQueue⟩
    mgmt := ⟨resetRequester, resetRequester⟩
    resetApplied := some k }

/-- POWER_ON_RESET (R203, R24): a rise of VDD; it makes a PIN reset that is applied a POWER_ON reset. -/
def execPowerOnReset (s : State) : Host.Outcome State Fault Refusal := .next (s.resetBlocks powerOnTables .powerOn)

/-- PIN_RESET (R203, R25): RESET_N is held low. A fall of RESET_N during a POWER_ON reset leaves it a POWER_ON reset,
and during a PIN reset RESET_N is low already (DEDUCED, safe, log entry 15). -/
def execPinReset (s : State) : Host.Outcome State Fault Refusal :=
  .next
    (match s.resetApplied with
    | none => s.resetBlocks (pinResetTables s.tables) .pin
    | some _ => s)

/-- RESET_END (R203): the straps are read and held, and SAFE_N is released (R125). Nothing ends while no reset is
applied. No watch state changes here: a watch whose entry an upset struck during a PIN reset stays WAITING until the
first read of R153 (DESIGN CHOICE, unsafe, log entry 28). -/
def execResetEnd (strapId : BitVec 2) (strapRate : Bool) (s : State) : Host.Outcome State Fault Refusal :=
  .next
    (match s.resetApplied with
    | none => s
    | some _ =>
      { s with
        strapId := strapId
        strapRate := strapRate
        resetApplied := none
        regime := { s.regime with safeNLow := false } })

end Sys2Proof.Machine
end

