-- ==== Sys2Proof/Machine/SplitEngine.lean ====
section
/-! DEFINITION. The Split Engine (chapter 4): the start of a split cycle with what the other blocks do at it, the
computation stage by stage, and the completion with the filling of the slots. -/

namespace Sys2Proof.Machine

/-! ### Demand and band (R68, R69) -/

/-- The conditioned demand D (R68). -/
def conditioned (cyc : CycleInputs) : Int := clamp cyc.torque (-cyc.wp.demNegCap) cyc.wp.demPosCap

/-- Threshold t(n) for n in 1..3 (R69). -/
def WorkingParams.threshold (w : WorkingParams) (n : Nat) : Int :=
  if n = 1 then w.t1 else if n = 2 then w.t2 else w.t3

/-- The band made without hysteresis: the count of thresholds less than or equal to the SOC (R69). -/
def freshBand (w : WorkingParams) (soc : Int) : Nat :=
  (if w.t1 ≤ soc then 1 else 0) + (if w.t2 ≤ soc then 1 else 0) + (if w.t3 ≤ soc then 1 else 0)

/-- The band moved by at most one with hysteresis (R69). -/
def movedBand (w : WorkingParams) (band : Nat) (soc : Int) : Nat :=
  if band < 3 ∧ w.threshold (band + 1) + w.bandHyst ≤ soc then band + 1
  else if 0 < band ∧ soc < w.threshold band - w.bandHyst then band - 1
  else band

/-- Band selection (R69): the mark is read as it stood at the cycle's start (R70). -/
def selectBand (cyc : CycleInputs) (band : Nat) : Nat :=
  if cyc.recompute then freshBand cyc.wp cyc.soc else movedBand cyc.wp band cyc.soc

/-! ### Interpolation (R71, R72) -/

/-- A position on an axis: interval index, offset, interval width (R71). -/
structure AxisPos where
  index : Nat
  offset : Int
  width : Int
  deriving DecidableEq, Repr

/-- The greatest index at most `k` whose breakpoint is at most `x`, 0 if there is none. -/
def lastAtMost (bp : Nat → Int) (x : Int) : Nat → Nat
  | 0 => 0
  | k + 1 => if bp (k + 1) ≤ x then k + 1 else lastAtMost bp x k

/-- Location of `x` among the first `n` breakpoints (R71). -/
def locate (bp : Nat → Int) (n : Nat) (x : Int) : AxisPos :=
  if x < bp 0 then ⟨0, 0, bp 1 - bp 0⟩
  else if bp (n - 1) ≤ x then ⟨n - 2, bp (n - 1) - bp (n - 2), bp (n - 1) - bp (n - 2)⟩
  else
    let i := lastAtMost bp x (n - 2)
    ⟨i, x - bp i, bp (i + 1) - bp i⟩

/-- The speed axis of a cycle (R71). -/
def speedPos (cyc : CycleInputs) : AxisPos := locate cyc.wp.speedBp cyc.wp.nSpeedBp.toNat cyc.speed

/-- The demand axis of a cycle (R71). -/
def demandPos (cyc : CycleInputs) (d : Int) : AxisPos := locate cyc.wp.demandBp cyc.wp.nDemandBp.toNat d

/-- The band map of a band (R6, R69). -/
def mapOf (band : Nat) : BankTable :=
  match band with
  | 0 => .map0
  | 1 => .map1
  | 2 => .map2
  | _ => .map3

/-- A corner read (R22, R23): the cell when it passes its check, else the fallback cell, with the cell-fault record
that a failing read writes. -/
def readCorner (bank : Bank) (cyc : CycleInputs) (band i j : Nat) (cf : CellFault) : BankFields × CellFault :=
  match bank.read (mapOf band) (i * 10 + j) with
  | .passing f => (f, cf)
  | .failing => (⟨cyc.wp.fallbackShare, 0⟩, ⟨true, cyc.bank, band, i, j⟩)

/-- The bilinear mean of four corner values, rounded half up (R72). -/
def bilinear (x y : AxisPos) (v00 v10 v01 v11 : Int) : Int :=
  roundHalfUp
    (v00 * (x.width - x.offset) * (y.width - y.offset) + v10 * x.offset * (y.width - y.offset) +
      v01 * (x.width - x.offset) * y.offset + v11 * x.offset * y.offset)
    (x.width * y.width)

/-- The interpolated engine share and charge offset of a cycle and the cell-fault record after its reads (R71, R72):
with D ≤ 0 no cell is read and both are 0. -/
def interpolate (bank : Bank) (cyc : CycleInputs) (band : Nat) (d : Int) (cf : CellFault) : Int × Int × CellFault :=
  if 0 < d then
    let x := speedPos cyc
    let y := demandPos cyc d
    let c00 := readCorner bank cyc band x.index y.index cf
    let c10 := readCorner bank cyc band (x.index + 1) y.index c00.2
    let c01 := readCorner bank cyc band x.index (y.index + 1) c10.2
    let c11 := readCorner bank cyc band (x.index + 1) (y.index + 1) c01.2
    (bilinear x y c00.1.f1 c10.1.f1 c01.1.f1 c11.1.f1, bilinear x y c00.1.f2 c10.1.f2 c01.1.f2 c11.1.f2, c11.2)
  else (0, 0, cf)

/-! ### Raw split and projection (R74 to R83) -/

/-- The raw engine torque (R74). -/
def engineRaw (cyc : CycleInputs) (d e c : Int) : Int :=
  if cyc.mode = .releaseRampDown then 0
  else if 0 < d then roundHalfAway (d * e) 1000 + c
  else cyc.lanes.engLo

/-- The four forms of the computation (R67). -/
inductive Form where
  | coupled | crank | plain | zero
  deriving DecidableEq, Repr

/-- The form a regime and phase selects (R67). -/
def Mode.form : Mode → Form
  | .hybridShared | .releaseRampDown | .limpEngineDrive => .coupled
  | .crankClutch => .crank
  | .electric | .crankStarter | .syncIdle | .syncMatch | .hybridLocking | .releaseOpening | .limpMotor => .plain
  | .standby | .safe | .limpEngineStart => .zero

/-- What a form gives: engine command (equal to the engine share), motor command, motor driver share, unmet torque
and binding set. -/
structure Projection where
  engine : Int
  motor : Int
  driver : Int
  u : Int
  binding : Binding
  deriving DecidableEq, Repr

/-- The slew window (R76 step 2), by its formula also where prev lies outside the lanes by `eng_step` or less (DEDUCED,
unsafe, log entry 29). -/
def slewLo (lanes : Lanes) (prev engStep : Int) : Int := max lanes.engLo (prev - engStep)
def slewHi (lanes : Lanes) (prev engStep : Int) : Int := min lanes.engHi (prev + engStep)

/-- The motor window of a cycle: 0..0 in LIMP_ENGINE, the motor lanes otherwise (R78 step 4). -/
def motorWindow (cyc : CycleInputs) : Int × Int :=
  if cyc.mode.regime = .limpEngine then (0, 0) else (cyc.lanes.motLo, cyc.lanes.motHi)

/-- The coupled projection (R76, R77, R78), with the members it records (R83). Where prev lies outside the lanes by
`eng_step` or less, R77 says of the window that it consists of the single lane value; R76 step 2 gives more than one value
when the overshoot is below `eng_step`. The model follows R76 (DEDUCED, unsafe, log entry 29). -/
def projectCoupled (cyc : CycleInputs) (prev d raw : Int) : Projection :=
  let l := cyc.lanes
  let step := cyc.wp.engStep
  let wlo := slewLo l prev step
  let whi := slewHi l prev step
  let eng1 := clamp raw l.engLo l.engHi
  let b1 := emptyBinding.engClamp raw eng1
  let windowed := decide (wlo ≤ whi)
  let eng2 := if windowed then clamp eng1 wlo whi else clamp prev l.engLo l.engHi
  let b2 := if windowed then b1.slewClamp eng1 eng2 else b1.engClamp prev eng2
  let w := motorWindow cyc
  let mot1 := clamp (d - eng2) w.1 w.2
  let b3 := b2.motClamp (d - eng2) mot1
  let again := windowed && decide (mot1 ≠ d - eng2)
  let eng3 := if again then clamp (d - mot1) wlo whi else eng2
  let b4 := if again then b3.rebalance l prev step (d - mot1) eng3 else b3
  ⟨eng3, mot1, mot1, d - eng3 - mot1, b4⟩

/-- The plain decoupled form (R80). -/
def projectPlain (cyc : CycleInputs) (d : Int) : Projection :=
  let m := clamp d cyc.lanes.motLo cyc.lanes.motHi
  ⟨0, m, m, d - m, emptyBinding.motClamp d m⟩

/-- The crank form (R81). -/
def projectCrank (cyc : CycleInputs) (d : Int) : Projection :=
  let want := d + cyc.wp.crankReserve
  let m := clamp want cyc.lanes.motLo cyc.lanes.motHi
  ⟨0, m, m - cyc.wp.crankReserve, d - (m - cyc.wp.crankReserve), emptyBinding.motClamp want m⟩

/-- The zero form (R82). -/
def projectZero (d : Int) : Projection := ⟨0, 0, 0, d, emptyBinding⟩

/-- The projection of a cycle by its form (R67). -/
def project (cyc : CycleInputs) (prev d raw : Int) : Projection :=
  match cyc.mode.form with
  | .coupled => projectCoupled cyc prev d raw
  | .crank => projectCrank cyc d
  | .plain => projectPlain cyc d
  | .zero => projectZero d

/-! ### Outputs (R88 to R91) -/

/-- The ENGINE_CMD content of the regime output table (R88). -/
def engineCmdOf (cyc : CycleInputs) (engine : Int) : Payload :=
  match cyc.mode with
  | .standby | .electric | .limpMotor | .safe => .engineCmd .off 0 0
  | .crankStarter | .limpEngineStart => .engineCmd .starter 0 0
  | .crankClutch | .syncIdle | .releaseOpening => .engineCmd .idle 0 0
  | .syncMatch => .engineCmd .speed 0 cyc.speed
  | .hybridLocking => .engineCmd .torque 0 0
  | .hybridShared | .releaseRampDown | .limpEngineDrive => .engineCmd .torque engine 0

/-- The CLUTCH_CMD content of the regime output table (R88). -/
def clutchCmdOf (cyc : CycleInputs) (engine : Int) : Payload :=
  match cyc.mode with
  | .crankClutch => .clutchCmd .slip cyc.wp.crankReserve
  | .hybridLocking | .hybridShared | .releaseRampDown => .clutchCmd .lock cyc.wp.clutchLockCapacity
  | .limpEngineDrive =>
    if cyc.wp.lockSpeedMin ≤ cyc.speed then .clutchCmd .lock cyc.wp.clutchLockCapacity
    else .clutchCmd .slip (engine.natAbs : Int)
  | .standby | .electric | .crankStarter | .syncIdle | .syncMatch | .releaseOpening | .limpEngineStart | .limpMotor
  | .safe => .clutchCmd .isOpen 0

/-- The INVERTER_CMD content of the regime output table (R88). -/
def inverterCmdOf (cyc : CycleInputs) (motor : Int) : Payload :=
  match cyc.mode with
  | .standby | .safe | .limpEngineStart | .limpEngineDrive => .inverterCmd .standby 0
  | .electric | .crankStarter | .crankClutch | .syncIdle | .syncMatch | .hybridLocking | .hybridShared
  | .releaseRampDown | .releaseOpening | .limpMotor => .inverterCmd .torque motor

/-- The engine torque value of ENGINE_CMD, as the split record keeps it (R88, R91). -/
def engineTorque (cyc : CycleInputs) (p : Projection) : Int := if cyc.mode.form = .coupled then p.engine else 0

/-- The BRAKE_SHARE content (R89). -/
def brakeShareOf (p : Projection) : Payload :=
  .brakeShare (if p.u < 0 then -p.u else 0) (if p.motor < 0 then -p.motor else 0)

/-- The SPLIT_REPORT content (R90). -/
def splitReportOf (cyc : CycleInputs) (d : Int) (p : Projection) : Payload :=
  .splitReport d (engineTorque cyc p) p.motor p.u p.binding cyc.mode

/-- A record joins the history at its head and the oldest leaves (R91). -/
def History.push (h : History) (r : SplitRecord) : History := ⟨r, h.newest, h.middle⟩

/-- What the computation of a cycle gives: its record, its projection, its wanted flag and the cell-fault record. -/
structure CycleResult where
  d : Int
  band : Nat
  e : Int
  c : Int
  raw : Int
  projection : Projection
  wanted : Bool
  cellFault : CellFault
  deriving DecidableEq, Repr

/-- The split computation (R68 to R84) of a cycle, on the cells of its bank as they stand now (R65). -/
def computeCycle (t : TableStore) (ctx : SplitState) (cyc : CycleInputs) : CycleResult :=
  let d := conditioned cyc
  let band := selectBand cyc ctx.band
  let ec := interpolate (t.bank cyc.bank) cyc band d t.cellFault
  let raw := engineRaw cyc d ec.1 ec.2.1
  { d := d
    band := band
    e := ec.1
    c := ec.2.1
    raw := raw
    projection := project cyc ctx.prev d raw
    wanted := engineWanted cyc ctx.prevWanted d ec.1 ec.2.1
    cellFault := ec.2.2 }

/-- The split record of a cycle (R91), with the increased cycle count (R87). -/
def recordOf (ctx : SplitState) (cyc : CycleInputs) (x : CycleResult) : SplitRecord where
  kind := cyc.kind
  count := ctx.count + 1
  d := x.d
  speed := cyc.speed
  soc := cyc.soc
  band := x.band
  e := x.e
  c := x.c
  engRaw := x.raw
  lanes := cyc.lanes
  engineCmd := engineTorque cyc x.projection
  motorCmd := x.projection.motor
  engineShare := x.projection.engine
  driverShare := x.projection.driver
  u := x.projection.u
  binding := x.projection.binding
  mode := cyc.mode
  wanted := x.wanted

/-- The split context after a cycle (R66, R69, R70, R85 to R87, R91): the mark is cleared when the cycle read it set
and no latch set it since. -/
def SplitState.completed (ctx : SplitState) (cyc : CycleInputs) (x : CycleResult) : SplitState where
  band := x.band
  recompute := ctx.recompute && (!cyc.recompute || cyc.remarked)
  prev := if cyc.mode.form = .coupled then x.projection.engine else 0
  prevWanted := x.wanted
  count := ctx.count + 1
  history := ctx.history.push (recordOf ctx cyc x)
  cycle := none
  waiting := ctx.waiting
  started := ctx.started

/-- The contents of one cycle completion placed at both ports (R88 to R90, R159), with the identifiers of the working
parameters fixed at the cycle's start (R157). -/
def State.fillSlots (s : State) (cyc : CycleInputs) (x : CycleResult) : State :=
  let p := x.projection
  let s := s.place .engineCmd ⟨identOf cyc.wp.idEngineCmd, engineCmdOf cyc p.engine⟩
  let s := s.place .inverterCmd ⟨identOf cyc.wp.idInverterCmd, inverterCmdOf cyc p.motor⟩
  let s := s.place .clutchCmd ⟨identOf cyc.wp.idClutchCmd, clutchCmdOf cyc p.engine⟩
  let s := s.place .brakeShare ⟨identOf cyc.wp.idBrakeShare, brakeShareOf p⟩
  if cyc.wp.reportEnable = 1 then s.place .splitReport ⟨identOf cyc.wp.idSplitReport, splitReportOf cyc x.d p⟩
  else s

/-- The Regime Controller's work at a cycle completion (R100): the dwell counts, then the completion test. -/
def State.completeRegime (s : State) (cyc : CycleInputs) (x : CycleResult) : State :=
  let i : CompletionInputs :=
    { cycleMode := cyc.mode
      cycleSpeed := cyc.speed
      engineCmd := engineTorque cyc x.projection
      wanted := x.wanted
      lock := s.lockReading
      crankFailClear := decide (s.faults.sources[srcCrankFail].state = .clear)
      engineFresh := decide (s.intake.streams.engine.state = .fresh) }
  s.setRegime ((s.regime.countDwell x.wanted).completionTest s.tables.wp i)

/-- The completion of the cycle under way (R85 to R91, R100, R144). -/
def State.completeCycle (s : State) (cyc : CycleInputs) : State :=
  let x := computeCycle s.tables s.split cyc
  let s := s.setTables { s.tables with cellFault := x.cellFault }
  let s := s.setSplit (s.split.completed cyc x)
  let s := s.fillSlots cyc x
  let s := s.evaluateWatches [(.demand, x.d), (.unmet, x.projection.u)] cyc.mode
  s.completeRegime cyc x

/-- SPLIT_CYCLE_COMPLETION (R88): nothing is completed while no cycle is under way. -/
def execSplitCycleCompletion (s : State) : Host.Outcome State Fault Refusal :=
  .next (s.unlessReset
    (match s.split.cycle with
    | some cyc => s.completeCycle cyc
    | none => s))

/-! ### The start (R65) -/

/-- Whether a pending swap may be taken in a settled regime (R18). -/
def Regime.allowsSwap : Regime → Bool
  | .electric | .hybrid | .limpEngine | .limpMotor | .standby | .safe => true
  | .crank | .sync | .release => false

/-- The boundary test of a pending swap at a cycle start (R18). -/
def State.swapAtStart (s : State) : State :=
  if s.tables.swapPending = true ∧ s.regime.mode.regime.allowsSwap = true then s.takeSwap else s

/-- The inputs a cycle fixes at its start (R65). -/
def State.fixInputs (s : State) (k : CycleKind) : CycleInputs where
  kind := k
  mode := s.regime.mode
  wp := s.tables.wp
  bank := s.tables.selector
  lanes := s.limits.combined
  torque := s.intake.effDemand.torque
  ready := s.intake.effDemand.ready
  zone := s.intake.effDemand.zone
  soc := (s.intake.effBattery s.tables.wp).soc
  speed := s.intake.effInverter.speed
  inhibit := anyMatched s.watch s.tables .engineInhibit
  hold := anyMatched s.watch s.tables .engineHold
  recompute := s.split.recompute
  remarked := false

/-- A start is taken: the regime is settled (R99), a due swap taken (R18), the watch table read (R153), the limit
vector formed (R60) and the inputs fixed (R65). -/
def State.startCycle (s : State) (k : CycleKind) : State :=
  let s := s.setSplit { s.split with waiting := none }
  let s := s.settle.swapAtStart.readWatchTable.updateLimits
  s.setSplit { s.split with cycle := some (s.fixInputs k), started := true }

/-- SPLIT_CYCLE_START (R65): the start that waits is taken, unless a cycle is under way, which is completed first. -/
def execSplitCycleStart (s : State) : Host.Outcome State Fault Refusal :=
  .next (s.unlessReset
    (match s.split.cycle, s.split.waiting with
    | none, some k => s.startCycle k
    | none, none => s
    | some _, _ => s))

end Sys2Proof.Machine
end

