-- ==== Sys2Proof/Machine/Store.lean ====
section
/-! DEFINITION. The Table Store's work in flight (chapter 1): the tests of the verify walk (R12, R13), its completion
(R14, R25), the copy (R15, R16), and an upset (R7). -/

namespace Sys2Proof.Machine

/-! ### The walk -/

/-- A value this walk has read, by position: the later tests use the values as read (R12; DEDUCED, unsafe, log entry
20). -/
def seenAt (seen : List Int) (p : Nat) : Int := seen.getD p 0

/-- Test 2 of R12: every stored field lies in its range. -/
def rangeOk (t : BankTable) (i : Nat) (f : BankFields) : Bool :=
  let r1 := fieldRange t i 1
  let r2 := fieldRange t i 2
  decide (r1.1 ≤ f.f1 ∧ f.f1 ≤ r1.2) && (decide (t.fields < 2) || decide (r2.1 ≤ f.f2 ∧ f.f2 ≤ r2.2))

/-- Test 3 of R12: a used breakpoint exceeds the one before it; the counts are those this walk has read. -/
def orderOk (t : BankTable) (i : Nat) (v : Int) (seen : List Int) : Bool :=
  match t with
  | .speedBp => decide (¬(1 ≤ i ∧ (i : Int) ≤ seenAt seen 13 - 1)) || decide (seenAt seen (54 + i - 1) < v)
  | .demandBp => decide (¬(1 ≤ i ∧ (i : Int) ≤ seenAt seen 14 - 1)) || decide (seenAt seen (66 + i - 1) < v)
  | .param | .thresh | .map0 | .map1 | .map2 | .map3 => true

/-- Test 4 of R12: the cross-field conditions whose highest-indexed member is this entry. -/
def crossOk (t : BankTable) (i : Nat) (v : Int) (seen : List Int) : Bool :=
  match t with
  | .param =>
    if i = 16 then decide (v < seenAt seen 15)
    else if i = 22 then decide (v < seenAt seen 21)
    else if 48 ≤ i ∧ i ≤ 52 then (List.range (i - 47)).all fun k => decide (v ≠ seenAt seen (47 + k))
    else true
  | .thresh =>
    let h := seenAt seen 12
    if i = 0 then decide (0 ≤ v - h)
    else if i = 1 then decide (seenAt seen 76 < v)
    else decide (seenAt seen 77 < v) && decide (v + h ≤ 1000)
  | .speedBp | .demandBp | .map0 | .map1 | .map2 | .map3 => true

/-- The tests of R12 at one entry, in order: the reason of the first that fails. -/
def walkReason (x : Bank) (p : Nat) (seen : List Int) : Option WalkReason :=
  let (t, i) := tableAt p
  match x.entryAt p with
  | .failing => some .check
  | .passing f =>
    if rangeOk t i f = false then some .range
    else if orderOk t i f.f1 seen = false then some .order
    else if crossOk t i f.f1 seen = false then some .cross
    else none

/-- The running walk reaches its next entry (R12, R13): the first test that fails ends it FAILED at once with the
entry and the reason; after the last entry none is left. It leaves the bank's verified flag as it stands: a walk that
fails a bank verified before, as after a CANCEL and a new COMMIT (R21), clears no flag, since R10 lists the clearing
events and a failed walk is none, while R14 has the flag 'stay' clear (DEDUCED, unsafe, log entry 24). -/
def TableStore.walkStep (t : TableStore) : TableStore :=
  match t.walk with
  | .running k pos seen =>
    if pos < 559 then
      match walkReason (t.bank t.walkedBank) pos seen with
      | some why => { t with walk := .failed ⟨(tableAt pos).1, (tableAt pos).2, why⟩ }
      | none =>
        let v := ((t.bank t.walkedBank).entryAt pos).firstField
        { t with walk := .running k (pos + 1) (if pos < 79 then seen ++ [v] else seen) }
    else t
  | .idle | .passed | .failed _ => t

/-- The walk carried on by up to `n` entries, stopping where it ends. -/
def TableStore.walkOn : Nat → TableStore → TableStore
  | 0, t => t
  | n + 1, t =>
    match t.walk with
    | .running _ _ _ => TableStore.walkOn n t.walkStep
    | .idle | .passed | .failed _ => t

/-- A commit walk ends PASSED (R14): the walked bank is verified and a swap is pending, taken at once when the regime
is STANDBY or SAFE. -/
def State.commitPassed (s : State) : State :=
  let s := s.setTables { s.tables.setVerified s.tables.walkedBank true with walk := .passed, swapPending := true }
  if s.regime.mode = .standby ∨ s.regime.mode = .safe then s.takeSwap else s

/-- The pin-reset walk ends PASSED (R25): the active bank is latched and verified; a failed latch leaves it unverified
as R20 states. -/
def State.pinResetPassed (s : State) : State :=
  let b := s.tables.walkedBank
  match (s.tables.bank b).latchFailure with
  | some f => s.setTables (s.tables.latchFailed b f)
  | none =>
    let s := s.adopt b
    s.setTables { s.tables.setVerified b true with walk := .passed }

/-- WALK_ENTRY_TEST (R12). It is taken while a PIN reset is applied too, since that reset starts its walk (R25). -/
def execWalkEntryTest (s : State) : Host.Outcome State Fault Refusal := .next (s.setTables s.tables.walkStep)

/-- WALK_COMPLETION (R14, R25): the entries the walk has not reached yet are tested as they stand (R13 fixes no moment
for each but that it comes before the completion; DESIGN CHOICE, safe, log entry 8), and the outcome acts. -/
def execWalkCompletion (s : State) : Host.Outcome State Fault Refusal :=
  .next
    (match s.tables.walk with
    | .running k _ _ =>
      let s := s.setTables (TableStore.walkOn 559 s.tables)
      match s.tables.walk, k with
      | .running _ _ _, .commit => s.commitPassed
      | .running _ _ _, .pinReset => s.pinResetPassed
      | .idle, _ | .passed, _ | .failed _, _ => s
    | .idle | .passed | .failed _ => s)

/-! ### The copy -/

/-- The running copy carries its next entry, fields and check code as stored (R15, R16). -/
def TableStore.copyStep (t : TableStore) : TableStore :=
  match t.copy with
  | none => t
  | some p =>
    if p < 559 then
      { t.setBank t.shadow ((t.bank t.shadow).setAt p ((t.bank t.selector).entryAt p)) with copy := some (p + 1) }
    else t

/-- The shadow after the copy has carried every entry from position `p` on. -/
def copyRest (active shadow : Bank) (p : Nat) : Bank :=
  ⟨Vector.ofFn fun i : Fin 559 => if i.val < p then shadow.entries[i] else active.entries[i]⟩

/-- COPY_ENTRY_CARRY (R16). -/
def execCopyEntryCarry (s : State) : Host.Outcome State Fault Refusal :=
  .next (s.unlessReset (s.setTables s.tables.copyStep))

/-- COPY_COMPLETION (R16): the entries not carried yet are carried as they stand (DESIGN CHOICE, safe, log entry 8), and
the copy-running flag is cleared; the shadow stays unverified. -/
def execCopyCompletion (s : State) : Host.Outcome State Fault Refusal :=
  .next (s.unlessReset
    (match s.tables.copy with
    | none => s
    | some p =>
      let t := s.tables
      s.setTables { t.setBank t.shadow (copyRest (t.bank t.selector) (t.bank t.shadow) p) with copy := none }))

/-- UPSET (R7): it may strike at any time, under a reset too. -/
def execUpset (e : EntryRef) (s : State) : Host.Outcome State Fault Refusal := .next (s.setTables (s.tables.strike e))

end Sys2Proof.Machine
end

