-- ==== Sys2Proof/Machine/Transmit.lean ====
section
/-! DEFINITION. Transmission and error confinement of the two ports (chapter 8, section 9.4): the arbiter, the endings
of an attempt, entry into BUS_OFF and recovery. -/

namespace Sys2Proof.Machine

/-- The counter of a frame kind (R161). -/
def Counters.get (x : Counters) : FrameKind → Nibble
  | .slot .engineCmd => x.engineCmd
  | .slot .inverterCmd => x.inverterCmd
  | .slot .clutchCmd => x.clutchCmd
  | .slot .brakeShare => x.brakeShare
  | .slot .splitReport => x.splitReport
  | .slot .replySupervisor => x.replySupervisor
  | .slot .replyService => x.replyService
  | .notice => x.notice

/-- Replaces the counter of a frame kind. -/
def Counters.set (x : Counters) (k : FrameKind) (v : Nibble) : Counters :=
  match k with
  | .slot .engineCmd => { x with engineCmd := v }
  | .slot .inverterCmd => { x with inverterCmd := v }
  | .slot .clutchCmd => { x with clutchCmd := v }
  | .slot .brakeShare => { x with brakeShare := v }
  | .slot .splitReport => { x with splitReport := v }
  | .slot .replySupervisor => { x with replySupervisor := v }
  | .slot .replyService => { x with replyService := v }
  | .notice => { x with notice := v }

/-- The frame kind of a holder; a forward queue's frames are not frames of the part (R161). -/
def Holder.kind : Holder → Option FrameKind
  | .slot n => some (.slot n)
  | .notice => some .notice
  | .forward => none

/-- The holders of a port in the fixed order among candidates of equal identifier (R163). -/
def holdersOf : Port → List Holder
  | .portD => [.slot .engineCmd, .slot .inverterCmd, .slot .clutchCmd, .forward]
  | .portU => [.slot .replySupervisor, .slot .replyService, .slot .brakeShare, .slot .splitReport, .notice, .forward]

/-- The frame a holder offers, if it is a candidate: the content of a slot in WAITING, or the head of a queue, written
with its counter and check byte when it is a frame of the part (R161, R162, R163). -/
def State.candidate (s : State) (p : Port) : Holder → Option Frame
  | .slot n =>
    match s.ports.slots.get n with
    | .waiting c => some (c.toFrame (s.ports.counters.get (.slot n)))
    | .empty | .sending _ | .sendingNext _ _ => none
  | .notice =>
    match s.watch.queue with
    | [] => none
    | n :: _ => some (Content.toFrame ⟨n.id, .notice n.notice⟩ (s.ports.counters.get .notice))
  | .forward => (s.forward.get p).frames.head?

/-- The candidates of a port in the fixed order (R163). -/
def State.candidates (s : State) (p : Port) : List Attempt :=
  (holdersOf p).filterMap fun h => (s.candidate p h).map fun f => ⟨h, f⟩

/-- The candidate of lowest identifier, the first of those that share it (R163). -/
def lowest : List Attempt → Option Attempt
  | [] => none
  | x :: xs =>
    match lowest xs with
    | none => some x
    | some y => if x.frame.id.toNat ≤ y.frame.id.toNat then some x else some y

/-- Replaces the slot a holder names by its move; queues are not slots. -/
def Slots.move (x : Slots) (h : Holder) (f : Slot → Slot) : Slots :=
  match h with
  | .slot n => x.set n (f (x.get n))
  | .notice | .forward => x

/-- The arbiter's choice at a transmit start, when the port may begin an attempt (R163). -/
def State.arbiterChoice (s : State) (p : Port) : Option Attempt :=
  let x := s.ports.port.get p
  if x.error = .busOff ∨ x.attempt.isSome = true then none else lowest (s.candidates p)

/-- TRANSMIT_START (R163): the bus lets the port start a frame. -/
def execTransmitStart (p : Port) (s : State) : Host.Outcome State Fault Refusal :=
  .next (s.unlessReset
    (match s.arbiterChoice p with
    | none => s
    | some a =>
      s.setPorts { s.ports with
        slots := s.ports.slots.move a.holder Slot.start
        port := s.ports.port.set p { s.ports.port.get p with attempt := some a } }))

/-- A frame that was sent whole leaves its queue (R164, R166). -/
def State.dequeue (s : State) (p : Port) : Holder → State
  | .slot _ => s
  | .notice => s.setWatch { s.watch with queue := s.watch.queue.tail }
  | .forward =>
    s.setForward (s.forward.set p { s.forward.get p with frames := (s.forward.get p).frames.tail })

/-- The counter of the kind is increased by one, wrapping from 15 to 0 (R161). -/
def Counters.bump (x : Counters) (h : Holder) : Counters :=
  match h.kind with
  | some k => x.set k (x.get k + 1)
  | none => x

/-- TRANSMISSION_COMPLETION (R164, R161, R176). -/
def execTransmissionCompletion (p : Port) (s : State) : Host.Outcome State Fault Refusal :=
  .next (s.unlessReset
    (match (s.ports.port.get p).attempt with
    | none => s
    | some a =>
      let x := s.ports.port.get p
      let s := s.setPorts
        { slots := s.ports.slots.move a.holder Slot.complete
          counters := s.ports.counters.bump a.holder
          port := s.ports.port.set p { x with attempt := none, txCount := x.txCount - 1 }.settled }
      s.dequeue p a.holder))

/-- The attempt in progress ends as a failure (R158, R164). -/
def State.failAttempt (s : State) (p : Port) (a : Attempt) : State :=
  s.setPorts { s.ports with
    slots := s.ports.slots.move a.holder Slot.fail
    port := s.ports.port.set p { s.ports.port.get p with attempt := none } }

/-- ARBITRATION_LOST (R164): neither count changes (R176). -/
def execArbitrationLost (p : Port) (s : State) : Host.Outcome State Fault Refusal :=
  .next (s.unlessReset
    (match (s.ports.port.get p).attempt with
    | none => s
    | some a => s.failAttempt p a))

/-- The transmit error count after an attempt that ended in error (R176); it does not pass 256. -/
def PortState.txFailed (x : PortState) (k : TxErrorKind) : PortState :=
  let kept := decide (x.error = ErrorState.errorPassive) && decide (k = TxErrorKind.missingAck)
  PortState.settled { x with txCount := if kept then x.txCount else min (x.txCount + 8) 256 }

/-- Entry of a port into BUS_OFF (R178, R179): the recovery count is 0, the port's forward queue is emptied with its
flag kept, and Port D raises DOWNLINK_LOSS. -/
def State.enterBusOff (s : State) (p : Port) : State :=
  let s := s.setPort p { s.ports.port.get p with recovery := 0 }
  let s := s.setForward (s.forward.set p { s.forward.get p with frames := [] })
  match p with
  | .portD => s.raiseFault srcDownlinkLoss
  | .portU => s

/-- TRANSMIT_ERROR (R176, R177). -/
def execTransmitError (p : Port) (k : TxErrorKind) (s : State) : Host.Outcome State Fault Refusal :=
  .next (s.unlessReset
    (match (s.ports.port.get p).attempt with
    | none => s
    | some a =>
      let s := s.failAttempt p a
      let s := s.setPort p ((s.ports.port.get p).txFailed k)
      if (s.ports.port.get p).error = .busOff then s.enterBusOff p else s))

/-- RECEIVE_ERROR (R176, R177): a port in BUS_OFF receives nothing. -/
def execReceiveError (p : Port) (s : State) : Host.Outcome State Fault Refusal :=
  .next (s.unlessReset
    (let x := s.ports.port.get p
    if x.error = .busOff then s else s.setPort p { x with rxCount := min (x.rxCount + 1) 255 }.settled))

/-- A port leaves BUS_OFF for ERROR_ACTIVE with every count 0, and Port D removes DOWNLINK_LOSS (R178, R179). -/
def State.leaveBusOff (s : State) (p : Port) : State :=
  let s := s.setPort p
    { s.ports.port.get p with error := .errorActive, txCount := 0, rxCount := 0, recovery := 0 }
  match p with
  | .portD => s.removeFault srcDownlinkLoss
  | .portU => s

/-- A run of 11 recessive bits on the bus of a port: in BUS_OFF it increases the recovery count by one, and the count
that reaches 128 is the recovery, at that same occurrence (R178). -/
def State.recessiveRun (s : State) (p : Port) : State :=
  let x := s.ports.port.get p
  if x.error = .busOff then
    if x.recovery + 1 < 128 then s.setPort p { x with recovery := x.recovery + 1 } else s.leaveBusOff p
  else s

/-- ELEVEN_RECESSIVE_BITS_SEEN (R178). -/
def execElevenRecessiveBitsSeen (p : Port) (s : State) : Host.Outcome State Fault Refusal :=
  .next (s.unlessReset (s.recessiveRun p))

/-- BUS_OFF_RECOVERY (R178, R179): the 128th occurrence, at which the recovery count reaches 128, given as the row of
its own that the table has for it. Before that the row stands for no event and changes nothing (DESIGN CHOICE, safe, log
entry 27). -/
def execBusOffRecovery (p : Port) (s : State) : Host.Outcome State Fault Refusal :=
  .next (s.unlessReset (if 127 ≤ (s.ports.port.get p).recovery then s.recessiveRun p else s))

end Sys2Proof.Machine
end

