-- ==== Sys2Proof/Machine/Dispatch.lean ====
section
/-! DEFINITION. The meaning of every command: one arm for each row of spec/opcode_table.json. -/

namespace Sys2Proof.Machine

def exec (i : Instr) (s : State) : Host.Outcome State Fault Refusal :=
  match i with
  | .powerOnReset => Sys2Proof.Machine.execPowerOnReset s
  | .pinReset => Sys2Proof.Machine.execPinReset s
  | .resetEnd strapId strapRate => Sys2Proof.Machine.execResetEnd strapId strapRate s
  | .upset e => Sys2Proof.Machine.execUpset e s
  | .frameReceived p f => Sys2Proof.Machine.execFrameReceived p f s
  | .nonDataFrameDiscard p k => Sys2Proof.Machine.execNonDataFrameDiscard p k s
  | .receiveError p => Sys2Proof.Machine.execReceiveError p s
  | .deadlineExpiry r => Sys2Proof.Machine.execDeadlineExpiry r s
  | .holdExpiry r => Sys2Proof.Machine.execHoldExpiry r s
  | .fillInExpiry => Sys2Proof.Machine.execFillInExpiry s
  | .splitCycleStart => Sys2Proof.Machine.execSplitCycleStart s
  | .splitCycleCompletion => Sys2Proof.Machine.execSplitCycleCompletion s
  | .crankTimerExpiry => Sys2Proof.Machine.execCrankTimerExpiry s
  | .syncTimerExpiry => Sys2Proof.Machine.execSyncTimerExpiry s
  | .clutchTimerExpiry => Sys2Proof.Machine.execClutchTimerExpiry s
  | .retryTimerExpiry => Sys2Proof.Machine.execRetryTimerExpiry s
  | .minRunExpiry => Sys2Proof.Machine.execMinRunExpiry s
  | .walkEntryTest => Sys2Proof.Machine.execWalkEntryTest s
  | .walkCompletion => Sys2Proof.Machine.execWalkCompletion s
  | .copyEntryCarry => Sys2Proof.Machine.execCopyEntryCarry s
  | .copyCompletion => Sys2Proof.Machine.execCopyCompletion s
  | .transmitStart p => Sys2Proof.Machine.execTransmitStart p s
  | .transmissionCompletion p => Sys2Proof.Machine.execTransmissionCompletion p s
  | .arbitrationLost p => Sys2Proof.Machine.execArbitrationLost p s
  | .transmitError p k => Sys2Proof.Machine.execTransmitError p k s
  | .busOffRecovery p => Sys2Proof.Machine.execBusOffRecovery p s
  | .editWindowExpiry q => Sys2Proof.Machine.execEditWindowExpiry q s
  | .malformedRequest q bytes => Sys2Proof.Machine.execMalformedRequest q bytes s
  | .read q tag bank table index field => Sys2Proof.Machine.execRead q tag bank table index field s
  | .readHold q tag table index field => Sys2Proof.Machine.execReadHold q tag table index field s
  | .write q tag bank table index field value => Sys2Proof.Machine.execWrite q tag bank table index field value s
  | .entryReset q tag bank table index value => Sys2Proof.Machine.execEntryReset q tag bank table index value s
  | .release q tag echo => Sys2Proof.Machine.execRelease q tag echo s
  | .copy q tag echo => Sys2Proof.Machine.execCopy q tag echo s
  | .commit q tag echo => Sys2Proof.Machine.execCommit q tag echo s
  | .cancel q tag echo => Sys2Proof.Machine.execCancel q tag echo s
  | .ackFault q tag table index => Sys2Proof.Machine.execAckFault q tag table index s
  | .ackWatch q tag table index => Sys2Proof.Machine.execAckWatch q tag table index s
  | .ackCell q tag table index => Sys2Proof.Machine.execAckCell q tag table index s
  | .ackFlags q tag table index => Sys2Proof.Machine.execAckFlags q tag table index s
  | .statusCapture q tag table => Sys2Proof.Machine.execStatusCapture q tag table s
  | .statusRead q tag table page line => Sys2Proof.Machine.execStatusRead q tag table page line s
  | .elevenRecessiveBitsSeen p => Sys2Proof.Machine.execElevenRecessiveBitsSeen p s

end Sys2Proof.Machine
end

