-- ==== Sys2Proof/Safety.lean ====
section
/-! DEFINITION. What a safe run keeps: the standing properties the manual's prose gives the part, each a predicate of
the state, in the terms the claims use. -/

namespace Sys2Proof.Machine

/-! ### Lanes and stored values (R31, R48, R59) -/

/-- A present HI value lies in 0..400, a present LO value in −400..0 (R48, R49). -/
structure LimitRecord.InRange (r : LimitRecord) : Prop where
  engHi : ∀ x ∈ r.engHi, 0 ≤ x ∧ x ≤ 400
  engLo : ∀ x ∈ r.engLo, -400 ≤ x ∧ x ≤ 0
  motHi : ∀ x ∈ r.motHi, 0 ≤ x ∧ x ≤ 400
  motLo : ∀ x ∈ r.motLo, -400 ≤ x ∧ x ≤ 0

/-- Every lane window contains 0 (R59) and lies in its range (R48). -/
structure Lanes.InRange (l : Lanes) : Prop where
  engHi : 0 ≤ l.engHi ∧ l.engHi ≤ 400
  engLo : -400 ≤ l.engLo ∧ l.engLo ≤ 0
  motHi : 0 ≤ l.motHi ∧ l.motHi ≤ 400
  motLo : -400 ≤ l.motLo ∧ l.motLo ≤ 0

/-- Every limit record, the combined vector and the vector of a cycle under way lie in their ranges (R48, R59, R61). -/
structure LimitsInv (s : State) : Prop where
  records : ∀ r ∈ s.limits.records, r.InRange
  combined : s.limits.combined.InRange
  cycle : ∀ c, s.split.cycle = some c → c.lanes.InRange

/-- The stored values of the six streams lie in their stored ranges (R31 to R36). -/
structure StoredInRange (x : Intake) : Prop where
  torque : -600 ≤ x.demand.torque ∧ x.demand.torque ≤ 600
  soc : 0 ≤ x.battery.soc ∧ x.battery.soc ≤ 1000
  pDis : 0 ≤ x.battery.pDis ∧ x.battery.pDis ≤ 2000
  pChg : 0 ≤ x.battery.pChg ∧ x.battery.pChg ≤ 2000
  battTemp : -40 ≤ x.battery.temp ∧ x.battery.temp ≤ 100
  shaftSpeed : 0 ≤ x.inverter.speed ∧ x.inverter.speed ≤ 7000
  motoring : 0 ≤ x.inverter.motoring ∧ x.inverter.motoring ≤ 400
  generating : 0 ≤ x.inverter.generating ∧ x.inverter.generating ≤ 400
  motorTemp : -40 ≤ x.inverter.temp ∧ x.inverter.temp ≤ 200
  engineSpeed : 0 ≤ x.engine.speed ∧ x.engine.speed ≤ 7000
  available : 0 ≤ x.engine.available ∧ x.engine.available ≤ 400
  drag : -400 ≤ x.engine.drag ∧ x.engine.drag ≤ 0
  coolantTemp : -40 ≤ x.engine.temp ∧ x.engine.temp ≤ 150
  regen : 0 ≤ x.brake.regen ∧ x.brake.regen ≤ 400

/-! ### Streams and faults (R39 to R43, R129, R133, section 6.3) -/

/-- The timers, the counter and the lapse condition of a stream fit its state (R26, R39, R40, R42). -/
structure StreamMeta.Consistent (m : StreamMeta) : Prop where
  deadline : m.deadline.isRunning = true ↔ m.state = .fresh
  hold : m.hold.isRunning = true ↔ m.state = .held
  counter : m.counter = none ↔ m.state = .never
  lapse : m.lapse = true ↔ m.state = .lapsed

/-- Every stream is consistent, and the fill-in timer runs exactly through HELD and LAPSED of DEMAND (R43). -/
structure StreamsInv (s : State) : Prop where
  streams : ∀ r : Role, (s.intake.streams.get r).Consistent
  fillIn : s.intake.fillIn.isRunning = true ↔
    (s.intake.streams.demand.state = .held ∨ s.intake.streams.demand.state = .lapsed)

/-- A source is ACTIVE exactly while its condition is present (section 6.3); only CLUTCH_FAULT has a timeout part
(R128); CRANK_FAIL's condition never stands (R132); the lapse sources follow the streams (R129) and DOWNLINK_LOSS
follows Port D (R133). -/
structure FaultsInv (s : State) : Prop where
  active : ∀ i : Fin 12, s.faults.sources[i].state = .active ↔ s.faults.sources[i].present = true
  timeout : ∀ i : Fin 12, i ≠ srcClutchFault → s.faults.sources[i].timeout = false
  crankFail : s.faults.sources[srcCrankFail].cond = false
  lapse : ∀ r : Role, s.faults.sources[lapseSource r].cond = (s.intake.streams.get r).lapse
  downlink : s.faults.sources[srcDownlinkLoss].cond = true ↔ s.ports.port.d.error = .busOff

/-! ### Fault-map entries as read (R9, R134) -/

/-- The power-on default entry of each source, row by row as R134 tables it. -/
def tabledFaultEntry (i : Fin 12) : FaultEntry :=
  match i.val with
  | 0 => ⟨⟨true, true, true, true⟩, .safe, .auto⟩
  | 1 => ⟨⟨false, false, false, false⟩, .none, .auto⟩
  | 2 => ⟨⟨false, true, true, false⟩, .limpEngine, .manual⟩
  | 3 => ⟨⟨true, false, false, false⟩, .limpMotor, .manual⟩
  | 4 => ⟨⟨false, false, false, true⟩, .limpMotor, .manual⟩
  | 5 => ⟨⟨false, false, true, false⟩, .none, .auto⟩
  | 6 => ⟨⟨false, true, true, false⟩, .limpEngine, .manual⟩
  | 7 => ⟨⟨true, false, false, false⟩, .limpMotor, .manual⟩
  | 8 => ⟨⟨false, true, true, false⟩, .limpEngine, .auto⟩
  | 9 => ⟨⟨false, false, false, true⟩, .limpMotor, .manual⟩
  | 10 => ⟨⟨false, false, false, false⟩, .limpMotor, .manual⟩
  | _ => ⟨⟨true, true, true, true⟩, .safe, .auto⟩

/-- A fault-map entry as its owners read it: one that fails its check as its row of R134 (R9). -/
def TableStore.readFaultEntry (t : TableStore) (i : Fin 12) : FaultEntry :=
  match t.faultMap[i] with
  | .passing e => e
  | .failing => tabledFaultEntry i

/-! ### Regime and the SAFE_N line (R94, R102, R110, R125) -/

/-- The timers of the Regime Controller run only in the regimes they belong to (R102), the min-run state is IDLE
where R103 says so, the counts keep their ranges (R94), SAFE_N is low exactly in SAFE and while a reset is applied
(R125), and until the first cycle after a reset has started the regime is STANDBY (R127). -/
structure RegimeInv (s : State) : Prop where
  crankTimer : s.regime.crankT.isRunning = true ↔
    s.regime.mode = .crankStarter ∨ s.regime.mode = .crankClutch ∨ s.regime.mode = .limpEngineStart
  syncTimer : s.regime.syncT.isRunning = true ↔ s.regime.mode = .syncMatch
  clutchTimer : s.regime.clutchT.isRunning = true → s.regime.mode = .hybridLocking ∨ s.regime.mode = .releaseOpening
  retryTimer : s.regime.retryT.isRunning = true → s.regime.mode = .electric
  minRun : s.regime.minRun ≠ .idle →
    s.regime.mode.regime = .sync ∨ s.regime.mode.regime = .hybrid ∨ s.regime.mode.regime = .release ∨
      s.regime.mode = .limpEngineDrive
  want : s.regime.want ≤ 255
  unwant : s.regime.unwant ≤ 65535
  dwell : s.regime.want = 0 ∨ s.regime.unwant = 0
  safeN : s.regime.safeNLow = true ↔ s.regime.mode = .safe ∨ s.resetApplied ≠ none
  standby : s.resetApplied ≠ none → s.regime.mode = .standby
  first : s.split.started = false → s.regime.mode = .standby ∧ s.split.cycle = none
  pinWalk : s.tables.walk.isPinReset = true → s.regime.mode = .standby

/-! ### Working parameters (R3, R4, R5, R12, R20) -/

/-- Every range, ascent and cross-field condition of R3, R4 and R5 on a set of parameter values in walk order. -/
structure ValidValues (v : Nat → Int) : Prop where
  param : ∀ i, i < 54 → (paramRows.getD i ⟨0, 0, 0⟩).lo ≤ v i ∧ v i ≤ (paramRows.getD i ⟨0, 0, 0⟩).hi
  speed : ∀ i, i < 12 → 0 ≤ v (54 + i) ∧ v (54 + i) ≤ 7000
  demand : ∀ j, j < 10 → 0 ≤ v (66 + j) ∧ v (66 + j) ≤ 600
  thresh : ∀ k, k < 3 → 1 ≤ v (76 + k) ∧ v (76 + k) ≤ 999
  speedAscent : ∀ i : Nat, (i : Int) + 1 < v 13 → v (54 + i) < v (54 + i + 1)
  demandAscent : ∀ j : Nat, (j : Int) + 1 < v 14 → v (66 + j) < v (66 + j + 1)
  offBelowOn : v 16 < v 15
  unlockBelowLock : v 22 < v 21
  idsDistinct : ∀ i j, 47 ≤ i → i < j → j ≤ 52 → v i ≠ v j
  bandLow : 0 ≤ v 76 - v 12
  thresh12 : v 76 < v 77
  thresh23 : v 77 < v 78
  bandHigh : v 78 + v 12 ≤ 1000

/-- The value of a set of working parameters at a position of the walk order, 0 beyond the last. -/
def WorkingParams.at (w : WorkingParams) (p : Nat) : Int := w.values[p]?.getD 0

/-- A set of working parameters meets every condition of R3, R4 and R5. -/
def WorkingParams.Valid (w : WorkingParams) : Prop := ValidValues w.at

/-- The passing entries of a bank up to position `n` hold the listed values. -/
def Bank.Holds (x : Bank) (vals : List Int) (n : Nat) : Prop :=
  ∀ p f, p < n → x.entryAt p = .passing f → f.f1 = seenAt vals p

/-- The tests of R12 hold for the first `n` positions of a list of values, the 79 positions the latch reads at most. -/
def PrefixOk (vals : List Int) (n : Nat) : Prop :=
  ∀ p, p < n → p < 79 →
    let t := (tableAt p).1
    let i := (tableAt p).2
    (fieldRange t i 1).1 ≤ seenAt vals p ∧ seenAt vals p ≤ (fieldRange t i 1).2 ∧
      orderOk t i (seenAt vals p) vals = true ∧ crossOk t i (seenAt vals p) vals = true

/-- What a running walk has established (R11 to R13): the bank it walks, and that the entries it has read stand as
read unless an upset struck them since, and passed their tests. -/
structure WalkInv (t : TableStore) (k : WalkKind) (pos : Nat) (seen : List Int) : Prop where
  walked : t.walkedBank = (match k with
    | .commit => t.shadow
    | .pinReset => t.selector)
  posLe : pos ≤ 559
  length : seen.length = min pos 79
  holds : (t.bank t.walkedBank).Holds seen (min pos 79)
  tested : PrefixOk seen pos

/-- The working parameters are valid, a pending swap's shadow holds a valid set, a walk, a copy and a pending swap
exclude each other (section 1.4, R17), and a running walk has established what it read. -/
structure ParamsInv (s : State) : Prop where
  valid : s.tables.wp.Valid
  cycle : ∀ c, s.split.cycle = some c → c.wp.Valid
  walkNoCopy : s.tables.walk.isRunning = true → s.tables.copy = none ∧ s.tables.swapPending = false
  copyNoSwap : s.tables.copy ≠ none → s.tables.swapPending = false
  walk : ∀ k pos seen, s.tables.walk = .running k pos seen → WalkInv s.tables k pos seen
  pending : s.tables.swapPending = true →
    ∃ vals : List Int, vals.length = 79 ∧ PrefixOk vals 79 ∧ (s.tables.bank s.tables.shadow).Holds vals 79

/-- The attempt count never exceeds `crank_attempts_max` and lies below it in CRANK (R94, R110), and the match count
lies in 0..20 (R94), never above `sync_confirm` while the regime is SYNC (R112). -/
structure AttemptsInv (s : State) : Prop where
  params : ParamsInv s
  regime : RegimeInv s
  attempts : (s.regime.attempts : Int) ≤ s.tables.wp.crankAttemptsMax
  inCrank : s.regime.mode.regime = .crank → (s.regime.attempts : Int) < s.tables.wp.crankAttemptsMax
  matches20 : s.regime.matchCount ≤ 20
  inSync : s.regime.mode.regime = .sync → (s.regime.matchCount : Int) ≤ s.tables.wp.syncConfirm

/-! ### Live tables (R143 to R145, R171) -/

/-- Two lookup entries may stand together (R171). -/
def FwdEntry.Apart (x y : FwdEntry) : Prop :=
  x.valid = true → y.valid = true → ¬(x.port = y.port ∧ x.id = y.id) ∧ (x.role = none ∨ x.role ≠ y.role)

/-- The lookup entries that are valid and pass their check are pairwise apart (R171). -/
def ForwardInv (s : State) : Prop :=
  ∀ i j : Fin 47, i ≠ j → ∀ x y, s.tables.forward[i] = .passing x → s.tables.forward[j] = .passing y → x.Apart y

/-- Every passing watch entry holds values in their ranges, its threshold in the range of its quantity (R143 to
R145). -/
structure WatchEntriesInv (s : State) : Prop where
  threshold : ∀ (i : Fin 16) (e : WatchEntry), s.tables.watch[i] = .passing e →
    e.quantity.range.1 ≤ e.threshold ∧ e.threshold ≤ e.quantity.range.2
  hysteresis : ∀ (i : Fin 16) (e : WatchEntry), s.tables.watch[i] = .passing e → 0 ≤ e.hysteresis ∧ e.hysteresis ≤ 500
  actionValue : ∀ (i : Fin 16) (e : WatchEntry), s.tables.watch[i] = .passing e →
    0 ≤ e.actionValue ∧ e.actionValue ≤ 400

/-! ### Ports, slots and queues (R150, R158, R160, R163, R175 to R178) -/

/-- Whether the slot holds a content that is on the bus (R158). -/
def Slot.onBus : Slot → Bool
  | .sending _ | .sendingNext _ _ => true
  | .empty | .waiting _ => false

/-- The port a slot belongs to (R157). -/
def SlotName.port : SlotName → Port
  | .engineCmd | .inverterCmd | .clutchCmd => .portD
  | .brakeShare | .splitReport | .replySupervisor | .replyService => .portU

/-- The counts and the error state of a port fit each other (R176 to R178). -/
structure PortState.Consistent (x : PortState) : Prop where
  tx : x.txCount ≤ 256
  rx : x.rxCount ≤ 255
  recovery : x.recovery < 128
  active : x.error = .errorActive → x.txCount ≤ 127 ∧ x.rxCount ≤ 127
  passive : x.error = .errorPassive → x.txCount ≤ 255 ∧ (127 < x.txCount ∨ 127 < x.rxCount)
  busOff : x.error = .busOff → 255 < x.txCount ∧ x.attempt = none

/-- The holder of an attempt stands ready at its port: a slot of that port, the notice queue's head on Port U, or the
head of the port's own forward queue, which is the frame on the bus (R163, R166). -/
def State.HolderStands (s : State) (p : Port) (a : Attempt) : Prop :=
  match a.holder with
  | .slot n => SlotName.port n = p ∧ (s.ports.slots.get n).onBus = true
  | .notice => p = .portU ∧ s.watch.queue ≠ []
  | .forward => (s.forward.get p).frames.head? = some a.frame

/-- The two ports with their holders: counts and states fit, queues keep their bounds, a slot is on the bus exactly
while it is the holder of its port's attempt, a reply slot never reaches SENDING_NEXT, and a port in BUS_OFF has an
empty forward queue. -/
structure PortsInv (s : State) : Prop where
  consistent : ∀ p : Port, (s.ports.port.get p).Consistent
  notices : s.watch.queue.length ≤ 8
  frames : ∀ p : Port, (s.forward.get p).frames.length ≤ 16
  busOffQueue : ∀ p : Port, (s.ports.port.get p).error = .busOff → (s.forward.get p).frames = []
  stands : ∀ (p : Port) (a : Attempt), (s.ports.port.get p).attempt = some a → s.HolderStands p a
  onBus : ∀ n : SlotName, (s.ports.slots.get n).onBus = true →
    ∃ a : Attempt, (s.ports.port.get (SlotName.port n)).attempt = some a ∧ a.holder = .slot n
  replies : ∀ (q : Requester) (c d : Content), s.ports.slots.get (replySlot q) ≠ .sendingNext c d

/-! ### Holds (R191) -/

/-- A requester's edit window runs exactly while its hold record names an entry, and no entry is held twice (R191). -/
structure HoldsInv (s : State) : Prop where
  window : ∀ q : Requester, (s.mgmt.get q).window.isRunning = (s.mgmt.get q).hold.isSome
  once : ∀ h : HeldEntry, s.mgmt.supervisor.hold = some h → s.mgmt.service.hold ≠ some h

/-! ### The split context (R66, R83) -/

/-- The band of the split context, and of every record, is one of the four (R66, R69). -/
structure BandInv (s : State) : Prop where
  band : s.split.band ≤ 3
  newest : s.split.history.newest.band ≤ 3
  middle : s.split.history.middle.band ≤ 3
  oldest : s.split.history.oldest.band ≤ 3

/-! ### Requests as commands (R181) -/

/-- The requester and the request of a management command, none for a command that is no request. -/
def commandRequest : Instr → Option (Requester × Request)
  | .malformedRequest q bytes => some (q, Request.ofBytes bytes)
  | .read q tag bank table index field =>
    some (q, ⟨some .read, tag, bank, tableNibble table, field, index, 0⟩)
  | .readHold q tag table index field =>
    some (q, ⟨some .readHold, tag, .active, tableNibble table, field, index, 0⟩)
  | .write q tag bank table index field value =>
    some (q, ⟨some .write, tag, bank, tableNibble table, field, index, value⟩)
  | .entryReset q tag bank table index value =>
    some (q, ⟨some .write, tag, bank, tableNibble table, 0, index, value⟩)
  | .release q tag echo => some (q, ⟨some .release, tag, .active, echo.table, echo.field, echo.index, 0⟩)
  | .copy q tag echo => some (q, ⟨some .copy, tag, .active, echo.table, echo.field, echo.index, 0⟩)
  | .commit q tag echo => some (q, ⟨some .commit, tag, .active, echo.table, echo.field, echo.index, 0⟩)
  | .cancel q tag echo => some (q, ⟨some .cancel, tag, .active, echo.table, echo.field, echo.index, 0⟩)
  | .ackFault q tag table index => some (q, ⟨some .ack, tag, .active, table, 1, index, 0⟩)
  | .ackWatch q tag table index => some (q, ⟨some .ack, tag, .active, table, 2, index, 0⟩)
  | .ackCell q tag table index => some (q, ⟨some .ack, tag, .active, table, 3, index, 0⟩)
  | .ackFlags q tag table index => some (q, ⟨some .ack, tag, .active, table, 4, index, 0⟩)
  | .statusCapture q tag table => some (q, ⟨some .status, tag, .active, table, 0, 0, 0⟩)
  | .statusRead q tag table page line => some (q, ⟨some .status, tag, .active, table, page, line, 0⟩)
  | .powerOnReset | .pinReset | .resetEnd _ _ | .upset _ | .frameReceived _ _ | .nonDataFrameDiscard _ _
  | .receiveError _ | .deadlineExpiry _ | .holdExpiry _ | .fillInExpiry | .splitCycleStart | .splitCycleCompletion
  | .crankTimerExpiry | .syncTimerExpiry | .clutchTimerExpiry | .retryTimerExpiry | .minRunExpiry | .walkEntryTest
  | .walkCompletion | .copyEntryCarry | .copyCompletion | .transmitStart _ | .transmissionCompletion _
  | .arbitrationLost _ | .transmitError _ _ | .busOffRecovery _ | .editWindowExpiry _ | .elevenRecessiveBitsSeen _ =>
    none

/-- A request of this requester would be taken now (R182, R179, R198): no reset is applied, Port U is not BUS_OFF and
the requester's reply slot is EMPTY. -/
structure State.Takes (s : State) (q : Requester) : Prop where
  noReset : s.resetApplied = none
  online : s.ports.port.u.error ≠ .busOff
  slot : s.ports.slots.get (replySlot q) = .empty

/-- The state with a reply waiting in the requester's slot (R183). -/
def State.withReply (s : State) (q : Requester) (tag : Byte) (table field : Nibble) (index : Byte) (value : Value24)
    (st : Status) : State :=
  s.setPorts { s.ports with
    slots := s.ports.slots.set (replySlot q)
      (.waiting ⟨replyIdent s.strapId q, .reply tag table field index value st⟩) }

/-- A port receives a frame that is none of the management frames (R173). -/
structure State.Classifies (s : State) (p : Port) (f : Frame) : Prop where
  noReset : s.resetApplied = none
  online : (s.ports.port.get p).error ≠ .busOff
  size : f.data.length ≤ 8
  plain : ∀ q : Requester, f.id ≠ requestIdent s.strapId q ∧ f.id ≠ replyIdent s.strapId q

/-- A frame passes the tests of R28 for a stream. -/
structure StreamMeta.Accepts (m : StreamMeta) (f : Frame) : Prop where
  length : f.data.length = 8
  check : f.data.getD 7 0 = checkByte f.id (f.data.take 7)
  fresh : m.state = .never ∨ m.counter ≠ some (counterOf f.data)

/-- A bank whose every entry passes its check with its fields in range, and whose parameters meet the conditions of R3
to R5. -/
structure Bank.Loaded (x : Bank) : Prop where
  passing : ∀ p, p < 559 → ∃ f, x.entryAt p = .passing f
  shares : ∀ p f, 79 ≤ p → p < 559 → x.entryAt p = .passing f → 0 ≤ f.f1 ∧ f.f1 ≤ 1000 ∧ 0 ≤ f.f2 ∧ f.f2 ≤ 150
  params : ValidValues fun p => (x.entryAt p).firstField

end Sys2Proof.Machine
end

