-- ==== Sys2Proof/WellFormed.lean ====
section
/-! DEFINITION. Which command terms stand for an event the manual gives: an upset strikes an entry that exists
(R2), a frame has at most 8 data bytes (R173), a malformed request is malformed (R184 order 1), a WRITE row names
a stored field and an ENTRY_RESET row field 0 (R8, R187), and a status read is not the capture (R195). `exec` gives a
term that stands for no event a next state too (DESIGN CHOICE, safe, log entry 14). -/

namespace Sys2Proof

/-- The entry exists in its table (R2, R169, R143, R134). -/
def EntryRef.wf : EntryRef → Bool
  | .bank _ t i => decide (i < t.size)
  | .live t i => decide (i < t.size)

/-- R184 order 1: the length is not 8, or the kind code has no meaning, or a READ, READ_HOLD or WRITE carries a
table code without a meaning, or a READ_HOLD names a bank table. -/
def malformedBytes (bytes : List Byte) : Bool :=
  let kind := (bytes.getD 0 0).extractLsb' 0 4
  let table := (bytes.getD 2 0).extractLsb' 0 4
  decide (bytes.length ≠ 8) || decide (8 < kind.toNat) ||
    (decide (kind.toNat ≤ 2) && decide (10 < table.toNat)) ||
    (decide (kind.toNat = 1) && decide (table.toNat < 8))

/-- The well-formed commands. -/
def Instr.wellFormed : Instr → Bool
  | .upset e => e.wf
  | .frameReceived _ f => decide (f.data.length ≤ 8)
  | .malformedRequest _ bytes => decide (bytes.length ≤ 8) && malformedBytes bytes
  | .write _ _ _ _ _ field _ => decide (field ≠ 0)
  | .statusRead _ _ _ page line => decide (page ≠ 0 ∨ line ≠ 0)
  | .powerOnReset | .pinReset | .resetEnd _ _ | .nonDataFrameDiscard _ _ | .receiveError _ | .deadlineExpiry _
  | .holdExpiry _ | .fillInExpiry | .splitCycleStart | .splitCycleCompletion | .crankTimerExpiry | .syncTimerExpiry
  | .clutchTimerExpiry | .retryTimerExpiry | .minRunExpiry | .walkEntryTest | .walkCompletion | .copyEntryCarry
  | .copyCompletion | .transmitStart _ | .transmissionCompletion _ | .arbitrationLost _ | .transmitError _ _
  | .busOffRecovery _ | .editWindowExpiry _ | .read _ _ _ _ _ _ | .readHold _ _ _ _ _ | .entryReset _ _ _ _ _ _
  | .release _ _ _ | .copy _ _ _ | .commit _ _ _ | .cancel _ _ _ | .ackFault _ _ _ _ | .ackWatch _ _ _ _
  | .ackCell _ _ _ _ | .ackFlags _ _ _ _ | .statusCapture _ _ _ | .elevenRecessiveBitsSeen _ => true

end Sys2Proof
end

