-- ==== Sys2Proof/Certificates/Slice0/Obligations.lean ====
section
/-! DEFINITION. The statements for the provers. Each command statement has a next state as its conclusion and says its
frame by naming the blocks that may differ: `t = { s with a := t.a, b := t.b }` says that every other field of the
state is as before. -/

open Sys2Proof Sys2Proof.Machine

/-! ### The queue -/

/-- A step takes the command at the front of the queue and runs it with the queue's rest. -/
def Obligations.StepTakesTheFrontCommand : Prop :=
  ∀ (c : Instr) (rest : List Instr) (s : State), s.pending = c :: rest → step s = exec c { s with pending := rest }

/-- Every command completes in every state, and no command touches the queue. While a reset is applied every command
but UPSET, the steps of the walk and the rows of the resets changes nothing (R180, R198, R203; that a reset stops every
timer and every work in flight but the walk is log entry 12, and that a PIN reset row changes nothing then is log entry
15). A command that stands for no event in the state changes nothing either, as the model chooses (log entry 14): the
end of a reset that is not applied, the expiry of a timer that does not run, a cycle start while a cycle is under way
or none waits, a completion of no cycle, walk or copy, a walk or copy step with none in hand or no entry left, a
transmit start during an attempt, the end of no attempt, 11 recessive bits at a port that is not BUS_OFF, and an
ill-formed upset or frame. A WRITE row of field 0 is the entry reset, and a STATUS_READ row of page 0, line 0 the
capture. -/
def Obligations.EveryCommandCompletesAndNonEventsChangeNothing : Prop :=
  (∀ (c : Instr) (s : State), ∃ t, exec c s = .next t ∧ t.pending = s.pending) ∧
  (∀ (c : Instr) (s : State), s.resetApplied ≠ none → match c with
    | .powerOnReset | .resetEnd _ _ | .upset _ | .walkEntryTest | .walkCompletion => True
    | _ => exec c s = .next s) ∧
  (∀ (c : Instr) (s : State),
    let noWalkEntry : Prop := ∀ k pos seen, s.tables.walk = .running k pos seen → 559 ≤ pos
    let noWalk : Prop := ∀ k pos seen, s.tables.walk ≠ .running k pos seen
    let noEvent : Prop := match c with
      | .resetEnd _ _ => s.resetApplied = none
      | .upset e => e.wf = false
      | .frameReceived _ f => 8 < f.data.length
      | .deadlineExpiry r => (s.intake.streams.get r).deadline = .stopped
      | .holdExpiry r => (s.intake.streams.get r).hold = .stopped
      | .fillInExpiry => s.intake.fillIn = .stopped
      | .splitCycleStart => s.split.cycle ≠ none ∨ s.split.waiting = none
      | .splitCycleCompletion => s.split.cycle = none
      | .crankTimerExpiry => s.regime.crankT = .stopped
      | .syncTimerExpiry => s.regime.syncT = .stopped
      | .clutchTimerExpiry => s.regime.clutchT = .stopped
      | .retryTimerExpiry => s.regime.retryT = .stopped
      | .minRunExpiry => ∀ period, s.regime.minRun ≠ .running period
      | .walkEntryTest => noWalkEntry
      | .walkCompletion => noWalk
      | .copyEntryCarry => ∀ p, s.tables.copy = some p → 559 ≤ p
      | .copyCompletion => s.tables.copy = none
      | .transmitStart p => (s.ports.port.get p).attempt ≠ none
      | .transmissionCompletion p | .arbitrationLost p | .transmitError p _ => (s.ports.port.get p).attempt = none
      | .elevenRecessiveBitsSeen p | .busOffRecovery p => (s.ports.port.get p).error ≠ .busOff
      | .editWindowExpiry q => (s.mgmt.get q).window = .stopped
      | _ => False
    noEvent → exec c s = .next s) ∧
  (∀ (q : Requester) (tag : Byte) (bank : BankSel) (name : TableName) (index : Byte) (value : Value24) (s : State),
    exec (.write q tag bank name index 0 value) s = exec (.entryReset q tag bank name index value) s) ∧
  (∀ (q : Requester) (tag : Byte) (table : Nibble) (s : State),
    exec (.statusRead q tag table 0 0) s = exec (.statusCapture q tag table) s)

/-! ### Resets -/

/-- R3, R24: the 54 parameters with their ranges, power-on defaults and indices, the breakpoints and thresholds at
their places in the walk order, and the Table Store after POWER_ON reset. -/
def Obligations.PowerOnResetTables : Prop :=
  (paramRows.map fun r => (r.lo, r.hi, r.dflt)) =
    [
      (0, 600, 600), (0, 600, 300), (0, 400, 250), (-100, 0, -50), (0, 400, 200), (-400, 0, -200),
      (700, 1000, 920), (700, 1000, 900), (0, 2000, 50), (0, 2000, 0), (1, 100, 10), (0, 1000, 0), (0, 50, 20),
      (2, 12, 2), (2, 10, 2), (1, 1000, 50), (0, 999, 20), (1, 50, 5)] ++
    [
      (1, 1000, 100), (0, 1000, 250), (0, 1000, 120), (600, 3000, 900), (500, 2900, 850), (300, 1500, 700),
      (0, 200, 90), (200, 5000, 1200), (1, 5, 3), (0, 10000, 2000), (10, 300, 50), (1, 20, 3), (100, 5000, 800),
      (0, 30000, 4000), (50, 2000, 300), (0, 600, 400), (5, 1000, 30), (0, 2000, 100)] ++
    [
      (5, 1000, 60), (0, 2000, 500), (5, 1000, 30), (0, 2000, 50), (5, 1000, 30), (0, 2000, 50), (5, 1000, 60),
      (0, 2000, 100), (5, 1000, 60), (0, 2000, 100), (5, 50, 10), (0, 2047, 288), (0, 2047, 289), (0, 2047, 290),
      (0, 2047, 424), (0, 2047, 1520), (0, 2047, 1521), (0, 1, 0)] ∧
  (∀ w : WorkingParams, (List.range 54).map w.at = [
      w.demPosCap, w.demNegCap, w.engHiCap, w.engLoCap, w.motHiCap, w.motLoCap, w.etaMot, w.etaGen, w.pDisFb,
      w.pChgFb, w.engStep, w.fallbackShare, w.bandHyst, w.nSpeedBp, w.nDemandBp, w.eOn, w.eOff, w.onDwell,
      w.offDwell, w.socFloor, w.socZoneFloor, w.lockSpeedMin, w.unlockSpeed, w.idleConfirm, w.crankReserve,
      w.crankTimeout, w.crankAttemptsMax, w.retryWait, w.syncWindow, w.syncConfirm, w.syncTimeout, w.minRun,
      w.clutchTimeout, w.clutchLockCapacity, w.demandDeadline, w.demandHold, w.batteryDeadline, w.batteryHold,
      w.inverterDeadline, w.inverterHold, w.engineDeadline, w.engineHold, w.clutchDeadline, w.clutchHold,
      w.brakeDeadline, w.brakeHold, w.fillPeriod, w.idEngineCmd, w.idInverterCmd, w.idClutchCmd, w.idBrakeShare,
      w.idSplitReport, w.idWatchNotice, w.reportEnable]) ∧
  (∀ (w : WorkingParams) (r : Role), (w.deadlineOf r, w.holdOf r) = match r with
    | .demand => (w.at 34, w.at 35) | .battery => (w.at 36, w.at 37) | .inverter => (w.at 38, w.at 39)
    | .engine => (w.at 40, w.at 41) | .clutch => (w.at 42, w.at 43) | .brake => (w.at 44, w.at 45)) ∧
  (∀ w : WorkingParams, (∀ i, i < 12 → w.speedBp i = w.at (54 + i)) ∧ (∀ j, j < 10 → w.demandBp j = w.at (66 + j)) ∧
    w.t1 = w.at 76 ∧ w.t2 = w.at 77 ∧ w.t3 = w.at 78) ∧
  (∀ s : State, ∃ t, exec .powerOnReset s = .next t ∧
    (∀ b p, p < 559 → (t.tables.bank b).entryAt p = .failing) ∧
    (∀ i : Fin 47, t.tables.forward[i] = .passing
      (match i.val with
      | 0 => ⟨true, .portU, 0x110, .consume, some .demand⟩
      | 1 => ⟨true, .portU, 0x180, .consumePass, some .battery⟩
      | 2 => ⟨true, .portU, 0x1A0, .consume, some .brake⟩
      | 3 => ⟨true, .portD, 0x210, .consumePass, some .inverter⟩
      | 4 => ⟨true, .portD, 0x220, .consumePass, some .engine⟩
      | 5 => ⟨true, .portD, 0x230, .consume, some .clutch⟩
      | _ => ⟨false, .portU, 0, .pass, none⟩)) ∧
    t.tables.portDefaults = .passing ⟨.pass, .pass⟩ ∧
    (∀ i : Fin 16, t.tables.watch[i] = .passing ⟨false, .soc, .above, 0, 0, 0, .notify, 0⟩) ∧
    (∀ i : Fin 12, t.tables.faultMap[i] = .passing
      (match i.val with
      | 0 => ⟨⟨true, true, true, true⟩, .safe, .auto⟩
      | 1 => ⟨⟨false, false, false, false⟩, .none, .auto⟩
      | 2 => ⟨⟨false, true, true, false⟩, .limpEngine, .manual⟩
      | 3 => ⟨⟨true, false, false, false⟩, .limpMotor, .manual⟩
      | 4 => ⟨⟨false, false, false, true⟩, .limpMotor, .manual⟩
      | 5 => ⟨⟨false, false, true, false⟩, .none, .auto⟩
      | 6 => ⟨⟨false, true, true, false⟩, .limpEngine, .manual⟩
      | 7 => ⟨⟨true, false, false, false⟩, .limpMotor, .manual⟩
      | 8 => ⟨⟨false, true, true, false⟩, .limpEngine, .auto⟩
      | 9 => ⟨⟨false, false, false, true⟩, .limpMotor, .manual⟩
      | 10 => ⟨⟨false, false, false, false⟩, .limpMotor, .manual⟩
      | _ => ⟨⟨true, true, true, true⟩, .safe, .auto⟩)) ∧
    t.tables.selector = .bankA ∧ t.tables.verifiedA = false ∧ t.tables.verifiedB = false ∧ t.tables.walk = .idle ∧
    t.tables.walkedBank = .bankA ∧ t.tables.copy = none ∧ t.tables.swapPending = false ∧
    (∀ p, p < 54 → t.tables.wp.at p = (paramRows.getD p ⟨0, 0, 0⟩).dflt) ∧
    (∀ i, t.tables.wp.speedBp i = if i = 1 then 7000 else 0) ∧
    (∀ j, t.tables.wp.demandBp j = if j = 1 then 600 else 0) ∧
    t.tables.wp.t1 = 300 ∧ t.tables.wp.t2 = 500 ∧ t.tables.wp.t3 = 700 ∧
    t.tables.cellFault = ⟨false, .bankA, 0, 0, 0⟩ ∧ t.resetApplied = some .powerOn ∧
    t.strapId = s.strapId ∧ t.strapRate = s.strapRate ∧ t.freeIx = s.freeIx)

/-- R25, R11: a PIN reset keeps both banks, the live tables and the selector, clears the flags, gives the working
parameters their defaults and starts the pin-reset walk of the active bank; while a reset is applied already it changes
nothing: R203 says so of a POWER_ON reset, and of a PIN reset it is log entry 15. When that walk has passed every entry
and all 79 latched entries still pass their checks, its completion latches the active bank: the working parameters take
its values, the bank is verified and the recompute mark is set, the selector and the dwell counts staying (R25, R20). A
cycle under way keeps every input it fixed (R65) and notes only that the mark was set again (R70, log entry 9). The
completion is taken while a reset is applied too (log entry 12). -/
def Obligations.PinResetKeepsContents : Prop :=
  ∀ s : State,
    (s.resetApplied = none → ∃ t, exec .pinReset s = .next t ∧
      t.tables = { s.tables with
        verifiedA := false, verifiedB := false, walk := .running .pinReset 0 [], walkedBank := s.tables.selector,
        copy := none, swapPending := false, wp := State.reset.tables.wp, cellFault := ⟨false, .bankA, 0, 0, 0⟩ } ∧
      (∀ i : Fin 16, t.watch.cells[i] = ⟨match s.tables.watch[i] with
        | .passing e => if e.enable then .waiting else .disabled
        | .failing => .disabled, false⟩) ∧
      t.resetApplied = some .pin ∧ t.strapId = s.strapId ∧ t.strapRate = s.strapRate ∧ t.freeIx = s.freeIx) ∧
    (s.resetApplied ≠ none → exec .pinReset s = .next s) ∧
    (∀ seen, s.tables.walk = .running .pinReset 559 seen → s.tables.walkedBank = s.tables.selector →
      (∀ p, p < 79 → (s.tables.bank s.tables.selector).entryAt p ≠ .failing) →
      ∃ t, exec .walkCompletion s = .next t ∧
        t = { s with
          tables := { s.tables with
            walk := .passed, wp := t.tables.wp, verifiedA := t.tables.verifiedA, verifiedB := t.tables.verifiedB }
          limits := { s.limits with static := t.limits.static }
          regime := { s.regime with attempts := min s.regime.attempts t.tables.wp.crankAttemptsMax.toNat }
          split := { s.split with recompute := true, cycle := s.split.cycle.map fun c => { c with remarked := true } } } ∧
        t.tables.verified s.tables.selector = true ∧
        t.tables.verified s.tables.selector.other = s.tables.verified s.tables.selector.other ∧
        (∀ p f, p < 79 → (s.tables.bank s.tables.selector).entryAt p = .passing f → t.tables.wp.at p = f.f1) ∧
        t.limits.static = ⟨some (max 0 (min 400 t.tables.wp.engHiCap)), some (max (-400) (min 0 t.tables.wp.engLoCap)),
          some (max 0 (min 400 t.tables.wp.motHiCap)), some (max (-400) (min 0 t.tables.wp.motLoCap))⟩)

/-- R47, R64, R92, R125, R127, R142, R156, R168, R180, R198, R203: what both resets leave in every block but the Table
Store, a POWER_ON reset during a PIN reset included: all six streams, the seven limit records and the combined vector,
the split context with three zeroed records, the Regime Controller, the sources, the watches (all DISABLED after
POWER_ON; after PIN reset each by the entry it keeps, as it stands at the reset's start: one that an upset strikes
while the reset is applied keeps WAITING until a read finds it failing, log entry 28), slots, counters, ports, queues,
holds and snapshots. The straps keep their readings. The end of a reset reads the straps and releases SAFE_N, and
changes nothing else; with no reset applied a RESET_END changes nothing (log entry 14). -/
def Obligations.BothResetsClearTheBlocks : Prop :=
  (∀ (c : Instr) (s : State), c = .powerOnReset ∨ (c = .pinReset ∧ s.resetApplied = none) → ∃ t, exec c s = .next t ∧
    (∀ r : Role, t.intake.streams.get r = ⟨.never, none, .stopped, .stopped, .none, false⟩) ∧
    t.intake.fillIn = .stopped ∧ t.intake.demand = ⟨0, false, false⟩ ∧ t.intake.battery = ⟨0, 0, 0, 0, false⟩ ∧
    t.intake.inverter = ⟨0, 0, 0, 0, false⟩ ∧ t.intake.engine = ⟨0, 0, 0, 0, false, false⟩ ∧
    t.intake.clutch = ⟨.isOpen, false⟩ ∧ t.intake.brake = ⟨0⟩ ∧
    t.limits = ⟨⟨some 250, some (-50), some 200, some (-200)⟩, ⟨some 0, some 0, none, none⟩,
      ⟨none, none, some 0, some 0⟩, ⟨none, none, some 0, some 0⟩, ⟨none, none, none, some 0⟩, ⟨none, none, none, none⟩,
      ⟨none, none, none, none⟩, ⟨0, 0, 0, 0⟩⟩ ∧
    (let zeroed : SplitRecord := ⟨.demand, 0, 0, 0, 0, 0, 0, 0, 0, ⟨0, 0, 0, 0⟩, 0, 0, 0, 0, 0,
      ⟨false, false, false, false, false⟩, .standby, false⟩
    t.split = ⟨0, true, 0, false, 0, ⟨zeroed, zeroed, zeroed⟩, none, none, false⟩) ∧
    t.regime = ⟨.standby, 0, 0, 0, 0, .stopped, .stopped, .stopped, .stopped, .idle, .electric, true⟩ ∧
    (∀ i : Fin 12, t.faults.sources[i] = ⟨.clear, false, false⟩) ∧
    t.watch.queue = [] ∧ t.watch.overflow = false ∧
    (∀ i : Fin 16, t.watch.cells[i] = (if c = .powerOnReset then ⟨.disabled, false⟩
      else match s.tables.watch[i] with
        | .passing e => ⟨if e.enable then .waiting else .disabled, false⟩
        | .failing => ⟨.disabled, false⟩)) ∧
    (∀ n : SlotName, t.ports.slots.get n = .empty) ∧ (∀ k : FrameKind, t.ports.counters.get k = 0) ∧
    (∀ p : Port, t.ports.port.get p = ⟨.errorActive, 0, 0, 0, none⟩ ∧ t.forward.get p = ⟨[], false⟩) ∧
    (∀ q : Requester, t.mgmt.get q = ⟨none, .stopped, false, none⟩) ∧
    t.resetApplied = some (if c = .powerOnReset then .powerOn else .pin) ∧
    t.strapId = s.strapId ∧ t.strapRate = s.strapRate) ∧
  (∀ (strapId : BitVec 2) (strapRate : Bool) (s : State),
    (s.resetApplied ≠ none → exec (.resetEnd strapId strapRate) s = .next { s with
      strapId := strapId, strapRate := strapRate, resetApplied := none,
      regime := { s.regime with safeNLow := false } }) ∧
    (s.resetApplied = none → exec (.resetEnd strapId strapRate) s = .next s))

/-- The model's choice of reset state (log entry 2): State.reset is the state a POWER_ON reset and its end leave with
both strap identifier pins and STRAP_RATE low, the queue and the model's own counter apart; it meets every standing
property of Safety. -/
def Obligations.ResetStateMeetsTheInvariants : Prop :=
  (∀ s t u : State, exec .powerOnReset s = .next t → exec (.resetEnd 0 false) t = .next u →
    u = { State.reset with freeIx := s.freeIx, pending := s.pending }) ∧
  StreamsInv State.reset ∧ FaultsInv State.reset ∧ RegimeInv State.reset ∧ ParamsInv State.reset ∧
    AttemptsInv State.reset ∧ ForwardInv State.reset ∧ WatchEntriesInv State.reset ∧ PortsInv State.reset ∧
    HoldsInv State.reset ∧ BandInv State.reset ∧ LimitsInv State.reset ∧ StoredInRange State.reset.intake

/-! ### Table Store -/

/-- R7, R10: an upset makes the entry it strikes fail its check and changes no other entry, no verified flag and
nothing else of the state. It holds while a reset is applied too; the state of the watch whose entry it strikes then
stays as the reset formed it (log entry 28). -/
def Obligations.UpsetStrikesOneEntry : Prop :=
  ∀ (e : EntryRef) (s : State), e.wf = true → ∃ t, exec (.upset e) s = .next t ∧
    t = { s with tables := t.tables } ∧
    t.tables = { s.tables with
      bankA := t.tables.bankA, bankB := t.tables.bankB, forward := t.tables.forward,
      portDefaults := t.tables.portDefaults, watch := t.tables.watch, faultMap := t.tables.faultMap } ∧
    (∀ b p, p < 559 → (t.tables.bank b).entryAt p =
      (match e with
      | .bank b' tbl i => if b = b' ∧ p = tbl.base + i then .failing else (s.tables.bank b).entryAt p
      | .live _ _ => (s.tables.bank b).entryAt p)) ∧
    (∀ i : Fin 47, t.tables.forward[i] = if e = .live .forward i then .failing else s.tables.forward[i]) ∧
    t.tables.portDefaults = (if e = .live .forward 47 then .failing else s.tables.portDefaults) ∧
    (∀ i : Fin 16, t.tables.watch[i] = if e = .live .watch i then .failing else s.tables.watch[i]) ∧
    (∀ i : Fin 12, t.tables.faultMap[i] = if e = .live .faultMap i then .failing else s.tables.faultMap[i])

/-- R2, R12, R13: the positions of the walk order, PARAM, SPEED_BP, DEMAND_BP, THRESH and MAP0 to MAP3 in index order,
and every outcome of the walk's next entry. A failing entry ends it FAILED with reason CHECK; else a stored field out
of its range ends it with reason RANGE; else a used breakpoint not above the one before it with reason ORDER; else a
cross-field condition that fails at this entry with reason CROSS; and an entry that passes all four is passed, its
first field kept for the later tests while the walk is within the 79 latched entries. The later tests use the values
this walk has read (log entry 20). Nothing else changes: the verified flag of the walked bank stays as it stands at an
entry that fails, also where it was set (log entry 24). It holds while a reset is applied too (log entry 12). -/
def Obligations.WalkEntryTested : Prop :=
  (∀ pos : Nat, pos < 559 → tableAt pos =
    if pos < 54 then (.param, pos) else if pos < 66 then (.speedBp, pos - 54) else if pos < 76 then (.demandBp, pos - 66)
    else if pos < 79 then (.thresh, pos - 76) else if pos < 199 then (.map0, pos - 79)
    else if pos < 319 then (.map1, pos - 199) else if pos < 439 then (.map2, pos - 319) else (.map3, pos - 439)) ∧
  (∀ (tbl : BankTable) (i : Nat), i < tbl.size → tableAt (tbl.base + i) = (tbl, i)) ∧
  (∀ (s : State) (k : WalkKind) (pos : Nat) (seen : List Int), s.tables.walk = .running k pos seen → pos < 559 →
    ∃ t, exec .walkEntryTest s = .next t ∧ t = { s with tables := { s.tables with walk := t.tables.walk } } ∧
      let ends (why : WalkReason) : Prop := t.tables.walk = .failed ⟨(tableAt pos).1, (tableAt pos).2, why⟩
      match (s.tables.bank s.tables.walkedBank).entryAt pos with
      | .failing => ends .check
      | .passing f =>
        let n (p : Nat) : Int := seen.getD p 0
        let lo : Int := if pos < 54 then (paramRows.getD pos ⟨0, 0, 0⟩).lo else if 76 ≤ pos ∧ pos < 79 then 1 else 0
        let hi : Int := if pos < 54 then (paramRows.getD pos ⟨0, 0, 0⟩).hi else if pos < 66 then 7000
          else if pos < 76 then 600 else if pos < 79 then 999 else 1000
        let inRange : Prop := lo ≤ f.f1 ∧ f.f1 ≤ hi ∧ (79 ≤ pos → 0 ≤ f.f2 ∧ f.f2 ≤ 150)
        let ascends : Prop :=
          (54 < pos → pos < 66 → (pos : Int) - 54 ≤ n 13 - 1 → n (pos - 1) < f.f1) ∧
          (66 < pos → pos < 76 → (pos : Int) - 66 ≤ n 14 - 1 → n (pos - 1) < f.f1)
        let crosses : Prop :=
          (pos = 16 → f.f1 < n 15) ∧ (pos = 22 → f.f1 < n 21) ∧
          (48 ≤ pos → pos ≤ 52 → ∀ p, 47 ≤ p → p < pos → f.f1 ≠ n p) ∧
          (pos = 76 → 0 ≤ f.f1 - n 12) ∧ (pos = 77 → n 76 < f.f1) ∧ (pos = 78 → n 77 < f.f1 ∧ f.f1 + n 12 ≤ 1000)
        (¬inRange → ends .range) ∧ (inRange → ¬ascends → ends .order) ∧
          (inRange → ascends → ¬crosses → ends .cross) ∧
          (inRange → ascends → crosses →
            t.tables.walk = .running k (pos + 1) (if pos < 79 then seen ++ [f.f1] else seen)))

/-- R3 to R6, R12: a walk that starts passes all 559 entries exactly when every entry passes its check, every stored
field lies in its range, the used breakpoints ascend and every cross-field condition holds. -/
def Obligations.WalkPassesExactlyTheLoadedBanks : Prop :=
  ∀ (t : TableStore) (k : WalkKind), t.walk = .running k 0 [] →
    ((∃ seen, (TableStore.walkOn 559 t).walk = .running k 559 seen) ↔ (t.bank t.walkedBank).Loaded)

/-- R14, R19, R20: a commit walk that has passed every entry completes PASSED with the shadow verified and the swap
waiting; outside STANDBY and SAFE nothing else changes. In STANDBY and SAFE the swap is taken at the same event when
all 79 latched entries pass their checks: the working parameters take the shadow's values, the selector flips, the new
shadow keeps its contents and is unverified, the recompute mark is set and the dwell counts are 0; a cycle under way
keeps every input it fixed (R65) and notes only that the mark was set again (R70, log entry 9). -/
def Obligations.PassedCommitWalkWaitsOrSwaps : Prop :=
  ∀ (s : State) (seen : List Int), s.tables.walk = .running .commit 559 seen →
    s.tables.walkedBank = s.tables.shadow →
    ∃ t, exec .walkCompletion s = .next t ∧
      (s.regime.mode ≠ .standby → s.regime.mode ≠ .safe →
        t = { s with tables := { s.tables with
          walk := .passed, swapPending := true, verifiedA := t.tables.verifiedA, verifiedB := t.tables.verifiedB } } ∧
        t.tables.verified s.tables.shadow = true ∧
        t.tables.verified s.tables.selector = s.tables.verified s.tables.selector) ∧
      (s.regime.mode = .standby ∨ s.regime.mode = .safe →
        (∀ p, p < 79 → (s.tables.bank s.tables.shadow).entryAt p ≠ .failing) →
        t = { s with
          tables := { s.tables with
            walk := .passed, swapPending := false, selector := s.tables.shadow, wp := t.tables.wp
            verifiedA := t.tables.verifiedA, verifiedB := t.tables.verifiedB }
          limits := { s.limits with static := t.limits.static }
          regime := { s.regime with
            want := 0, unwant := 0, attempts := min s.regime.attempts t.tables.wp.crankAttemptsMax.toNat }
          split := { s.split with recompute := true, cycle := s.split.cycle.map fun c => { c with remarked := true } } } ∧
        t.tables.verified s.tables.shadow = true ∧ t.tables.verified s.tables.selector = false ∧
        (∀ p f, p < 79 → (s.tables.bank s.tables.shadow).entryAt p = .passing f → t.tables.wp.at p = f.f1) ∧
        t.limits.static = ⟨some (max 0 (min 400 t.tables.wp.engHiCap)), some (max (-400) (min 0 t.tables.wp.engLoCap)),
          some (max 0 (min 400 t.tables.wp.motHiCap)), some (max (-400) (min 0 t.tables.wp.motLoCap))⟩)

/-- R14, R20, R25: walks and latches that fail adopt nothing. WALK_COMPLETION goes on from the walk's next entry (the
entries not reached yet are tested as they stand, log entry 8): where that entry ends the walk FAILED it is the
completion, and only the walk state changes, the verified flags staying as they stand (log entry 24); where it is
passed, the walk completes as from there. A swap whose latch meets a failing entry changes no working parameter and
flips nothing: the walk state becomes FAILED with reason CHECK and the first failing entry, the shadow is unverified
and nothing pends. So it is at the completion of a commit walk in STANDBY and SAFE, and at a cycle start in a settled
regime that takes the swap, whose cycle then runs on the bank, the working parameters, the dwell counts and the
recompute mark that stood. The same latch at the completion of the pin-reset walk leaves the active bank unverified and
the working parameters as they are. Walk steps are taken while a reset is applied too (log entry 12). -/
def Obligations.FailedWalksAndLatchesAdoptNothing : Prop :=
  (∀ (s u : State) (k : WalkKind) (pos : Nat) (seen : List Int), s.tables.walk = .running k pos seen → pos < 559 →
    exec .walkEntryTest s = .next u →
    (∀ f, u.tables.walk = .failed f →
      exec .walkCompletion s = .next { s with tables := { s.tables with walk := .failed f } }) ∧
    (∀ seen', u.tables.walk = .running k (pos + 1) seen' → exec .walkCompletion s = exec .walkCompletion u)) ∧
  (∀ (s : State) (p : Nat), p < 79 → (s.tables.bank s.tables.shadow).entryAt p = .failing →
    (∀ p', p' < p → (s.tables.bank s.tables.shadow).entryAt p' ≠ .failing) →
    s.takeSwap = { s with tables := { (s.tables.setVerified s.tables.shadow false) with
      walk := .failed ⟨(tableAt p).1, (tableAt p).2, .check⟩, swapPending := false } }) ∧
  (∀ (s : State) (p : Nat) (seen : List Int), s.tables.walk = .running .commit 559 seen →
    s.tables.walkedBank = s.tables.shadow → s.regime.mode = .standby ∨ s.regime.mode = .safe →
    p < 79 → (s.tables.bank s.tables.shadow).entryAt p = .failing →
    (∀ p', p' < p → (s.tables.bank s.tables.shadow).entryAt p' ≠ .failing) →
    exec .walkCompletion s = .next { s with tables := { (s.tables.setVerified s.tables.shadow false) with
      walk := .failed ⟨(tableAt p).1, (tableAt p).2, .check⟩, swapPending := false } }) ∧
  (∀ (s : State) (k : CycleKind) (p : Nat), s.resetApplied = none → s.split.cycle = none →
    s.split.waiting = some k → s.tables.swapPending = true →
    p < 79 → (s.tables.bank s.tables.shadow).entryAt p = .failing →
    (∀ p', p' < p → (s.tables.bank s.tables.shadow).entryAt p' ≠ .failing) →
    ∃ t c, exec .splitCycleStart s = .next t ∧ t.split.cycle = some c ∧
      c.wp = s.tables.wp ∧ c.bank = s.tables.selector ∧ c.recompute = s.split.recompute ∧
      t.split.recompute = s.split.recompute ∧ t.limits.static = s.limits.static ∧
      t.regime.want = s.regime.want ∧ t.regime.unwant = s.regime.unwant ∧
      t.tables = (if t.regime.mode.regime = .crank ∨ t.regime.mode.regime = .sync ∨ t.regime.mode.regime = .release
        then s.tables
        else { (s.tables.setVerified s.tables.shadow false) with
          walk := .failed ⟨(tableAt p).1, (tableAt p).2, .check⟩, swapPending := false })) ∧
  (∀ (s : State) (p : Nat) (seen : List Int), s.tables.walk = .running .pinReset 559 seen →
    s.tables.walkedBank = s.tables.selector → p < 79 → (s.tables.bank s.tables.selector).entryAt p = .failing →
    (∀ p', p' < p → (s.tables.bank s.tables.selector).entryAt p' ≠ .failing) →
    exec .walkCompletion s = .next { s with tables := { (s.tables.setVerified s.tables.selector false) with
      walk := .failed ⟨(tableAt p).1, (tableAt p).2, .check⟩ } })

/-- R16: the copy carries its next entry as it is stored, failing or passing; at its completion it has carried every
entry from its position on, as they then stand (log entry 8), and the copy-running flag is clear. Nothing else changes
at either. -/
def Obligations.CopyCarriesEveryEntry : Prop :=
  ∀ (s : State) (p : Nat), s.resetApplied = none → s.tables.copy = some p →
    (p < 559 → ∃ t, exec .copyEntryCarry s = .next t ∧
      t = { s with tables := { s.tables with
        bankA := t.tables.bankA, bankB := t.tables.bankB, copy := some (p + 1) } } ∧
      t.tables.bank s.tables.selector = s.tables.bank s.tables.selector ∧
      (∀ p', (t.tables.bank s.tables.shadow).entryAt p' =
        if p' = p then (s.tables.bank s.tables.selector).entryAt p
        else (s.tables.bank s.tables.shadow).entryAt p')) ∧
    (∃ t, exec .copyCompletion s = .next t ∧
      t = { s with tables := { s.tables with bankA := t.tables.bankA, bankB := t.tables.bankB, copy := none } } ∧
      t.tables.bank s.tables.selector = s.tables.bank s.tables.selector ∧
      (∀ p', p' < 559 → (t.tables.bank s.tables.shadow).entryAt p' =
        if p' < p then (s.tables.bank s.tables.shadow).entryAt p'
        else (s.tables.bank s.tables.selector).entryAt p'))

/-- R3, R4, R5, R11 to R20: the working parameters meet every range, ascent and cross-field condition, whatever the
commands; every step keeps it, from every state that meets the invariant. -/
def Obligations.StepKeepsWorkingParametersValid : Prop :=
  ∀ s t : State, ParamsInv s → step s = .next t → ParamsInv t

/-! ### Signal Intake -/

/-- R28, R30, R174: a consumed frame that fails a test sets the last discard reason of its stream by the first test
that fails, and changes nothing else but the receive count of its port and, for CONSUME_PASS, the forward queue it is
offered to. -/
def Obligations.DiscardedFrameChangesTheReasonOnly : Prop :=
  ∀ (p : Port) (r : Role) (a : FwdAction) (f : Frame) (s : State), s.Classifies p f →
    s.tables.classify p f.id = (a, some r) → a = .consume ∨ a = .consumePass →
    ¬ (s.intake.streams.get r).Accepts f →
    ∃ t why, exec (.frameReceived p f) s = .next t ∧
      t = { s with
        ports := (s.countReceived p).ports
        forward := if a = .consumePass then (s.offerForward p.other f).forward else s.forward
        intake := { s.intake with
          streams := s.intake.streams.set r { s.intake.streams.get r with discard := why } } } ∧
      (f.data.length ≠ 8 → why = .length) ∧
      (f.data.length = 8 → f.data.getD 7 0 ≠ checkByte f.id (f.data.take 7) → why = .check) ∧
      (f.data.length = 8 → f.data.getD 7 0 = checkByte f.id (f.data.take 7) → why = .repeated)

/-- R31, R38: an accepted frame is decoded and stored as a whole, its counter recorded, the stream FRESH with its
deadline started and its hold stopped, and no other stream changes; of the other blocks only those R45 names may. A
DEMAND acceptance leaves its start waiting for SPLIT_CYCLE_START, also with no cycle under way (log entry 4). -/
def Obligations.AcceptedFrameIsStored : Prop :=
  ∀ (p : Port) (r : Role) (a : FwdAction) (f : Frame) (s : State), s.Classifies p f →
    s.tables.classify p f.id = (a, some r) → a = .consume ∨ a = .consumePass →
    (s.intake.streams.get r).Accepts f →
    ∃ t, exec (.frameReceived p f) s = .next t ∧
      t.intake.streams.get r =
        ⟨.fresh, some (counterOf f.data), .running (s.tables.wp.deadlineOf r).toNat, .stopped,
          (s.intake.streams.get r).discard, false⟩ ∧
      (∀ r', r' ≠ r → t.intake.streams.get r' = s.intake.streams.get r') ∧
      t.intake.fillIn = (if r = .demand then .stopped else s.intake.fillIn) ∧
      t.intake.demand = (if r = .demand then decodeDemand f.data else s.intake.demand) ∧
      t.intake.battery = (if r = .battery then decodeBattery f.data else s.intake.battery) ∧
      t.intake.inverter = (if r = .inverter then decodeInverter f.data else s.intake.inverter) ∧
      t.intake.engine = (if r = .engine then decodeEngine f.data else s.intake.engine) ∧
      t.intake.clutch = (if r = .clutch then decodeClutch f.data else s.intake.clutch) ∧
      t.intake.brake = (if r = .brake then decodeBrake f.data else s.intake.brake) ∧
      t.split = { s.split with waiting := if r = .demand then some .demand else s.split.waiting } ∧
      t = { s with
        intake := t.intake, split := t.split, limits := t.limits, regime := t.regime, faults := t.faults,
        watch := t.watch, freeIx := t.freeIx, ports := (s.countReceived p).ports
        forward := if a = .consumePass then (s.offerForward p.other f).forward else s.forward } ∧
      (r = .demand ∨ r = .brake → t.regime = s.regime ∧ t.watch = s.watch) ∧
      (r = .clutch → t.watch = s.watch) ∧
      (r = .battery ∨ r = .inverter → t.regime = s.regime)

/-- R9, R51, R52, R128, R129, R130, R131, R135: after an acceptance the limit record of the stream follows the stored
values, and every source is as the acceptance leaves it. The flag of an INVERTER, ENGINE, BATTERY or CLUTCH frame
raises its source, which is then ACTIVE, or removes its condition, both parts for CLUTCH_FAULT; the lapse source of a
stream that was LAPSED is removed, before the acceptance is handed on (log entry 19). A removal takes an ACTIVE source
whose condition is present to CLEAR by clear mode AUTO and to AWAIT_ACK by MANUAL (R134, a failing entry read as its
default), and one that finds the condition absent changes nothing. No other source changes. The sources have the
indices of R128: the lapses of DEMAND, BATTERY, INVERTER, ENGINE, CLUTCH and BRAKE 0 to 5, INVERTER_FAULT,
ENGINE_FAULT, CONTACTOR_OPEN, CLUTCH_FAULT, CRANK_FAIL and DOWNLINK_LOSS 6 to 11. -/
def Obligations.AcceptanceFeedsLimitsAndFaults : Prop :=
  ([Role.demand, .battery, .inverter, .engine, .clutch, .brake].map lapseSource = [0, 1, 2, 3, 4, 5] ∧
    [srcInverterFault, srcEngineFault, srcContactorOpen, srcClutchFault, srcCrankFail, srcDownlinkLoss] =
      [6, 7, 8, 9, 10, 11]) ∧
  (∀ (p : Port) (r : Role) (a : FwdAction) (f : Frame) (s : State), s.Classifies p f →
    s.tables.classify p f.id = (a, some r) → a = .consume ∨ a = .consumePass →
    (s.intake.streams.get r).Accepts f →
    ∃ t, exec (.frameReceived p f) s = .next t ∧
      t.limits = (match r with
        | .inverter => { s.limits with
            inverter := ⟨none, none, some t.intake.inverter.motoring, some (-t.intake.inverter.generating)⟩ }
        | .engine => { s.limits with engine := ⟨some t.intake.engine.available, some t.intake.engine.drag, none, none⟩ }
        | .brake => { s.limits with brake := ⟨none, none, none, some (-t.intake.brake.regen)⟩ }
        | .demand | .battery | .clutch => s.limits) ∧
      (let removed (i : Fin 12) : FaultSource :=
        let x := s.faults.sources[i]
        if x.cond = true ∨ x.timeout = true then
          ⟨match x.state, (s.tables.readFaultEntry i).clearMode with
            | .active, .auto => .clear
            | .active, .manual => .awaitAck
            | st, _ => st, false, false⟩
        else x
      let flagged (i : Fin 12) (isSet : Bool) : FaultSource :=
        if isSet then { s.faults.sources[i] with state := .active, cond := true } else removed i
      ∀ i : Fin 12, t.faults.sources[i] =
        if i = lapseSource r ∧ (s.intake.streams.get r).state = .lapsed then removed i
        else if r = .inverter ∧ i = srcInverterFault then flagged i t.intake.inverter.fault
        else if r = .engine ∧ i = srcEngineFault then flagged i t.intake.engine.fault
        else if r = .battery ∧ i = srcContactorOpen then flagged i (!t.intake.battery.contactorClosed)
        else if r = .clutch ∧ i = srcClutchFault then flagged i t.intake.clutch.fault
        else s.faults.sources[i]))

/-- R39, R40, R43, R129, R135: the expiries of a stream. The deadline expiry of a FRESH stream with a hold parameter
above 0 takes it to HELD with its hold timer started, and for DEMAND the fill-in timer starts. The hold expiry takes the
stream to LAPSED with its timers stopped and its lapse source ACTIVE, and changes no other stream, value or source; a
deadline expiry with a hold parameter of 0 acts the same, and for DEMAND starts the fill-in timer too. A fill-in expiry
restarts that timer and issues a FILL_IN start, which takes the place of one that waits (R65) and waits itself for
SPLIT_CYCLE_START, also with no cycle under way (log entry 4). Nothing else changes. -/
def Obligations.StreamExpiriesFollowTheStates : Prop :=
  (∀ (r : Role) (s : State), s.resetApplied = none → (s.intake.streams.get r).deadline.isRunning = true →
    0 < s.tables.wp.holdOf r →
    exec (.deadlineExpiry r) s = .next { s with intake := { s.intake with
      fillIn := if r = .demand then .running s.tables.wp.fillPeriod.toNat else s.intake.fillIn
      streams := s.intake.streams.set r { s.intake.streams.get r with
        state := .held, deadline := .stopped, hold := .running (s.tables.wp.holdOf r).toNat } } }) ∧
  (∀ (r : Role) (c : Instr) (s : State), s.resetApplied = none →
    (c = .holdExpiry r ∧ (s.intake.streams.get r).hold.isRunning = true) ∨
      (c = .deadlineExpiry r ∧ (s.intake.streams.get r).deadline.isRunning = true ∧ s.tables.wp.holdOf r ≤ 0) →
    ∃ t, exec c s = .next t ∧ t = { s with intake := t.intake, faults := t.faults } ∧
      t.intake = { s.intake with
        streams := s.intake.streams.set r { s.intake.streams.get r with
          state := .lapsed, deadline := .stopped, hold := .stopped, lapse := true }
        fillIn := if c = .deadlineExpiry .demand then .running s.tables.wp.fillPeriod.toNat else s.intake.fillIn } ∧
      t.faults.sources[lapseSource r] =
        { s.faults.sources[lapseSource r] with state := .active, cond := true } ∧
      (∀ i : Fin 12, i ≠ lapseSource r → t.faults.sources[i] = s.faults.sources[i])) ∧
  (∀ s : State, s.resetApplied = none → s.intake.fillIn.isRunning = true →
    exec .fillInExpiry s = .next { s with
      intake := { s.intake with fillIn := .running s.tables.wp.fillPeriod.toNat }
      split := { s.split with waiting := some .fillIn } })

/-- R26, R38 to R43, R128, R129, R132, R133, section 6.3: every step keeps the timers, counter and lapse condition of
every stream in step with its state, the fill-in timer running exactly through HELD and LAPSED of DEMAND, each source
ACTIVE exactly while its condition is present, and the lapse sources and DOWNLINK_LOSS in step with the streams and
Port D. -/
def Obligations.StepKeepsStreamsAndFaultsInStep : Prop :=
  (∀ s t : State, StreamsInv s → step s = .next t → StreamsInv t) ∧
  (∀ s t : State, FaultsInv s → PortsInv s → StreamsInv s → step s = .next t → FaultsInv t)

/-- R31 to R36, R48, R49, R59, R61, R143 to R145: every step keeps the stored values of every stream, every limit
record, the combined vector, the vector of the cycle under way and the values of every passing watch entry in their
ranges, every lane window with 0 inside. -/
def Obligations.StepKeepsValuesInRange : Prop :=
  (∀ s t : State, StoredInRange s.intake → step s = .next t → StoredInRange t.intake) ∧
  (∀ s t : State, LimitsInv s → step s = .next t → LimitsInv t) ∧
  (∀ s t : State, WatchEntriesInv s → step s = .next t → WatchEntriesInv t)

/-- R28, R31 to R36, R199: decoding the frame a sender builds from values in their stored ranges, with any counter and
identifier, gives those values back, for each of the six streams, and the check byte passes. The data word takes bytes
0 to 5 with byte 0 least significant, the counter bits 0 to 3 of byte 6, and the check byte is 255 less the sum of
bytes 0 to 6 and the low byte of the identifier modulo 256. Any data whatever decodes to the fields of the data word
clamped to their ranges, the temperatures less 40, the drag torque as the negative of its magnitude, the clutch codes 1
and 3 both as SLIPPING, and the flags of byte 6. -/
def Obligations.StreamDecodingInvertsTheLayout : Prop :=
  (∀ (x : Intake) (id : Ident) (n : Nibble), StoredInRange x →
    decodeDemand (frameBytes id (wordDemand x.demand) (flagsDemand x.demand) n) = x.demand ∧
    decodeBattery (frameBytes id (wordBattery x.battery) (flagsBattery x.battery) n) = x.battery ∧
    decodeInverter (frameBytes id (wordInverter x.inverter) (flagsInverter x.inverter) n) = x.inverter ∧
    decodeEngine (frameBytes id (wordEngine x.engine) (flagsEngine x.engine) n) = x.engine ∧
    decodeClutch (frameBytes id (wordClutch x.clutch) (flagsClutch x.clutch) n) = x.clutch ∧
    decodeBrake (frameBytes id (wordBrake x.brake) 0 n) = x.brake ∧
    (∀ w u, counterOf (frameBytes id w u n) = n ∧
      (frameBytes id w u n).getD 7 0 = checkByte id ((frameBytes id w u n).take 7))) ∧
  (∀ (data : List Byte) (k : Nat), k < 48 → (dataWord data).getLsbD k = (data.getD (k / 8) 0).getLsbD (k % 8)) ∧
  (∀ (data : List Byte) (k : Nat), k < 4 → (counterOf data).getLsbD k = (data.getD 6 0).getLsbD k) ∧
  (∀ (id : Ident) (first7 : List Byte),
    (checkByte id first7).toNat = 255 - ((first7.map BitVec.toNat).sum + id.toNat % 256) % 256) ∧
  (∀ data : List Byte,
    let w := dataWord data
    let field (lo n : Nat) : Int := ((w.extractLsb' lo n).toNat : Int)
    let flag (n : Nat) : Bool := (data.getD 6 0).getLsbD n
    let within (lo hi v : Int) : Int := max lo (min hi v)
    decodeDemand data = ⟨within (-600) 600 (w.extractLsb' 0 12).toInt, flag 4, flag 5⟩ ∧
    decodeBattery data = ⟨within 0 1000 (field 0 11), within 0 2000 (field 11 12), within 0 2000 (field 23 12),
      within (-40) 100 (field 35 8 - 40), flag 4⟩ ∧
    decodeInverter data = ⟨within 0 7000 (field 0 13), within 0 400 (field 13 10), within 0 400 (field 23 10),
      within (-40) 200 (field 33 8 - 40), flag 4⟩ ∧
    decodeEngine data = ⟨within 0 7000 (field 0 13), within 0 400 (field 13 10), -within 0 400 (field 23 10),
      within (-40) 150 (field 33 8 - 40), flag 4, flag 5⟩ ∧
    decodeClutch data = ⟨if field 0 2 = 0 then .isOpen else if field 0 2 = 2 then .locked else .slipping, flag 4⟩ ∧
    decodeBrake data = ⟨within 0 400 (field 0 10)⟩)

/-! ### Limit Vector Unit -/

/-- R54: the battery lanes, with the worked values of the rule's table for a limit of 1000 in both directions,
`eta_mot` 920 and `eta_gen` 900. -/
def Obligations.BatteryLanesFollowPowerAndSpeed : Prop :=
  (∀ (wp : WorkingParams) (v : BatteryVals) (speed : Int),
    let n := max speed 500
    batteryRecord wp v speed = ⟨none, none, some (max 0 (min 400 (v.pDis * wp.etaMot * 955 / (1000 * n)))),
      some (max (-400) (min 0 (-(v.pChg * 1000 * 955 / (wp.etaGen * n)))))⟩) ∧
  (∀ (wp : WorkingParams) (v : BatteryVals) (speed : Int), wp.etaMot = 920 → wp.etaGen = 900 → v.pDis = 1000 →
    v.pChg = 1000 →
    (speed ≤ 500 → batteryRecord wp v speed = ⟨none, none, some 400, some (-400)⟩) ∧
    (speed = 2000 → batteryRecord wp v speed = ⟨none, none, some 400, some (-400)⟩) ∧
    (speed = 3000 → batteryRecord wp v speed = ⟨none, none, some 292, some (-353)⟩) ∧
    (speed = 5000 → batteryRecord wp v speed = ⟨none, none, some 175, some (-212)⟩) ∧
    (speed = 7000 → batteryRecord wp v speed = ⟨none, none, some 125, some (-151)⟩))

/-- R9, R37, R51 to R53, R56 to R60: the limit vector of a cycle. With every record in its range and STATIC present in
all four lanes, each combined HI lane is a present value and the least of them, each combined LO lane a present value
and the greatest, and every window contains 0. At a cycle start the ENGINE, INVERTER and BRAKE records stand while
their stream is FRESH or HELD and are their fallbacks otherwise, BATTERY is computed from the effective power limits
and shaft speed, WATCH holds the least action value of the MATCHED derates, FAULT a 0 in each lane that a source in
ACTIVE or AWAIT_ACK forces (R134) and nothing elsewhere, and the vector of the cycle is the combination of these
records; so a forced lane is 0 in the vector of every cycle. -/
def Obligations.LimitVectorIsFormedAtTheCycleStart : Prop :=
  (∀ x : Limits, (∀ r ∈ x.records, r.InRange) → x.static.engHi.isSome = true → x.static.engLo.isSome = true →
    x.static.motHi.isSome = true → x.static.motLo.isSome = true →
    some x.combine.engHi ∈ x.records.map LimitRecord.engHi ∧
    (∀ r ∈ x.records, ∀ y ∈ r.engHi, x.combine.engHi ≤ y) ∧
    some x.combine.engLo ∈ x.records.map LimitRecord.engLo ∧
    (∀ r ∈ x.records, ∀ y ∈ r.engLo, y ≤ x.combine.engLo) ∧
    some x.combine.motHi ∈ x.records.map LimitRecord.motHi ∧
    (∀ r ∈ x.records, ∀ y ∈ r.motHi, x.combine.motHi ≤ y) ∧
    some x.combine.motLo ∈ x.records.map LimitRecord.motLo ∧
    (∀ r ∈ x.records, ∀ y ∈ r.motLo, y ≤ x.combine.motLo) ∧
    x.combine.engLo ≤ 0 ∧ 0 ≤ x.combine.engHi ∧ x.combine.motLo ≤ 0 ∧ 0 ≤ x.combine.motHi) ∧
  (∀ (s : State) (k : CycleKind), s.resetApplied = none → s.split.cycle = none → s.split.waiting = some k →
    ∃ t c, exec .splitCycleStart s = .next t ∧ t.split.cycle = some c ∧
      let live (r : Role) : Bool := match (s.intake.streams.get r).state with
        | .fresh | .held => true
        | .never | .lapsed => false
      let speed : Int := if live .inverter then s.intake.inverter.speed else 0
      let battery : BatteryVals := { s.intake.battery with
        pDis := if live .battery then s.intake.battery.pDis else t.tables.wp.at 8
        pChg := if live .battery then s.intake.battery.pChg else t.tables.wp.at 9 }
      let derates (a : WatchAction) (y : Int) : Prop := ∃ (i : Fin 16) (e : WatchEntry),
        t.watch.cells[i].state = .matched ∧ t.tables.watch[i] = .passing e ∧ e.action = a ∧
          y = max 0 (min 400 e.actionValue)
      let least (a : WatchAction) (lane : Option Int) : Prop :=
        (lane = none ↔ ∀ y, ¬derates a y) ∧ (∀ y, lane = some y → derates a y ∧ ∀ z, derates a z → y ≤ z)
      let forced (lane : ForcedSet → Bool) : Prop :=
        ∃ i : Fin 12, s.faults.sources[i].state ≠ .clear ∧ lane (s.tables.readFaultEntry i).forced = true
      let closes (p : Prop) (lane : Option Int) : Prop := (p → lane = some 0) ∧ (¬p → lane = none)
      (s.tables.swapPending = false → t.limits.static = s.limits.static) ∧
      t.limits.engine = (if live .engine then s.limits.engine else ⟨some 0, some 0, none, none⟩) ∧
      t.limits.inverter = (if live .inverter then s.limits.inverter else ⟨none, none, some 0, some 0⟩) ∧
      t.limits.brake = (if live .brake then s.limits.brake else ⟨none, none, none, some 0⟩) ∧
      t.limits.battery = batteryRecord t.tables.wp battery speed ∧
      least .derateEngine t.limits.watch.engHi ∧ t.limits.watch.engLo = none ∧
      least .derateMotor t.limits.watch.motHi ∧ t.limits.watch.motLo = none ∧
      closes (forced ForcedSet.engine) t.limits.fault.engHi ∧ closes (forced ForcedSet.engine) t.limits.fault.engLo ∧
      closes (forced ForcedSet.motorDrive) t.limits.fault.motHi ∧
      closes (forced ForcedSet.motorRegen) t.limits.fault.motLo ∧
      c.lanes = t.limits.combined ∧ t.limits.combined = t.limits.combine ∧
      (LimitsInv s →
        (forced ForcedSet.engine → c.lanes.engHi = 0 ∧ c.lanes.engLo = 0) ∧
        (forced ForcedSet.motorDrive → c.lanes.motHi = 0) ∧ (forced ForcedSet.motorRegen → c.lanes.motLo = 0)))

/-! ### Split Engine -/

/-- R65, R18, R37, R60: with no cycle under way the waiting start is taken: the cycle fixes the settled regime, the
working parameters, the bank, the combined vector and the hold readings as they stand at the start, and the effective
inputs by the state of each stream: the stored values in FRESH and HELD, and in NEVER and LAPSED torque 0, READY clear,
zone restricted, shaft speed 0 and SOC 0; the streams, the faults, the ports and the Management Unit are untouched, and
with no swap pending so are the tables; of the Watch Unit only a watch whose entry fails its check moves, to DISABLED
with its fired flag kept (R153). The first cycle after a reset, in a state that meets RegimeInv, is fixed in STANDBY
(R127, R168; log entry 23). -/
def Obligations.CycleStartFixesTheInputs : Prop :=
  ∀ (s : State) (k : CycleKind), s.resetApplied = none → s.split.cycle = none → s.split.waiting = some k →
    ∃ t c, exec .splitCycleStart s = .next t ∧
      let live (r : Role) : Bool := match (s.intake.streams.get r).state with
        | .fresh | .held => true
        | .never | .lapsed => false
      t = { s with tables := t.tables, limits := t.limits, split := t.split, regime := t.regime, watch := t.watch } ∧
      t.split = { s.split with
        waiting := none, cycle := some c, recompute := t.split.recompute, started := true } ∧
      (s.split.started = false → RegimeInv s → c.mode = .standby) ∧
      c.kind = k ∧ c.mode = t.regime.mode ∧ c.wp = t.tables.wp ∧ c.bank = t.tables.selector ∧
      c.lanes = t.limits.combined ∧ t.limits.combined = t.limits.combine ∧
      c.torque = (if live .demand then s.intake.demand.torque else 0) ∧
      c.ready = (live .demand && s.intake.demand.ready) ∧ c.zone = (!live .demand || s.intake.demand.zone) ∧
      c.speed = (if live .inverter then s.intake.inverter.speed else 0) ∧
      c.soc = (if live .battery then s.intake.battery.soc else 0) ∧ c.recompute = t.split.recompute ∧ c.remarked = false ∧
      (c.inhibit = true ↔ ∃ (i : Fin 16) (e : WatchEntry), t.watch.cells[i].state = .matched ∧
        t.tables.watch[i] = .passing e ∧ e.action = .engineInhibit) ∧
      (c.hold = true ↔ ∃ (i : Fin 16) (e : WatchEntry), t.watch.cells[i].state = .matched ∧
        t.tables.watch[i] = .passing e ∧ e.action = .engineHold) ∧
      (∀ i : Fin 16, t.watch.cells[i] = (match s.tables.watch[i] with
        | .passing _ => s.watch.cells[i]
        | .failing => { s.watch.cells[i] with state := .disabled })) ∧
      t.watch.queue = s.watch.queue ∧ t.watch.overflow = s.watch.overflow ∧
      (s.tables.swapPending = false → t.tables = s.tables ∧ t.split.recompute = s.split.recompute)

/-- R18, R19: a pending swap is taken at a cycle start exactly when the settled regime is none of CRANK, SYNC and
RELEASE, given that the shadow's 79 latched entries pass their checks; the cycle then runs on the new bank, its working
parameters and the recompute mark. The selector flips, the working parameters and STATIC take the shadow's values, the
new shadow is unverified, the new active bank keeps its flag, the dwell counts are 0, and the walk state, both banks,
the live tables and the cell-fault record stay (R19, R20). Where the swap waits, no table changes. -/
def Obligations.PendingSwapWaitsForItsBoundary : Prop :=
  ∀ (s : State) (k : CycleKind), s.resetApplied = none → s.split.cycle = none → s.split.waiting = some k →
    s.tables.swapPending = true → (∀ p, p < 79 → (s.tables.bank s.tables.shadow).entryAt p ≠ .failing) →
    ∃ t c, exec .splitCycleStart s = .next t ∧ t.split.cycle = some c ∧
      if t.regime.mode.regime = .crank ∨ t.regime.mode.regime = .sync ∨ t.regime.mode.regime = .release then
        t.tables = s.tables
      else
        t.tables = { s.tables with
          selector := s.tables.shadow, swapPending := false, wp := t.tables.wp
          verifiedA := t.tables.verifiedA, verifiedB := t.tables.verifiedB } ∧
        t.tables.verified s.tables.shadow = s.tables.verified s.tables.shadow ∧
        t.tables.verified s.tables.selector = false ∧
        (∀ p f, p < 79 → (s.tables.bank s.tables.shadow).entryAt p = .passing f → t.tables.wp.at p = f.f1) ∧
        t.limits.static = ⟨some (max 0 (min 400 t.tables.wp.engHiCap)), some (max (-400) (min 0 t.tables.wp.engLoCap)),
          some (max 0 (min 400 t.tables.wp.motHiCap)), some (max (-400) (min 0 t.tables.wp.motLoCap))⟩ ∧
        t.regime.want = 0 ∧ t.regime.unwant = 0 ∧ (t.regime.attempts : Int) ≤ max 0 t.tables.wp.crankAttemptsMax ∧
        t.split.recompute = true ∧ c.recompute = true ∧ c.remarked = false ∧ c.bank = s.tables.shadow ∧
        c.wp = t.tables.wp

/-- R68, R78, R80 to R82, R87, R91: the completion stores one record at the head of the history with the inputs of its
cycle, its demand is the request clamped to the caps, its shares and the unmet torque add up to that demand, the count
goes up by one, prev is the engine share in the coupled form and 0 otherwise, and the streams, the limits, the faults,
the queues of both ports and the Management Unit are untouched; of the tables only the cell-fault record may change. -/
def Obligations.CycleCompletionStoresTheRecord : Prop :=
  ∀ (s : State) (cyc : CycleInputs), s.resetApplied = none → s.split.cycle = some cyc →
    ∃ t, exec .splitCycleCompletion s = .next t ∧
      t = { s with
        tables := { s.tables with cellFault := t.tables.cellFault }
        split := t.split, regime := t.regime, watch := t.watch, freeIx := t.freeIx
        ports := { s.ports with slots := t.ports.slots } } ∧
      let x := t.split.history.newest
      x.engineShare + x.driverShare + x.u = x.d ∧
      x.d = (if cyc.torque < -cyc.wp.demNegCap then -cyc.wp.demNegCap
        else if cyc.wp.demPosCap < cyc.torque then cyc.wp.demPosCap else cyc.torque) ∧
      x.count = s.split.count + 1 ∧ x.kind = cyc.kind ∧ x.mode = cyc.mode ∧ x.lanes = cyc.lanes ∧
      x.speed = cyc.speed ∧ x.soc = cyc.soc ∧
      t.split.history.middle = s.split.history.newest ∧ t.split.history.oldest = s.split.history.middle ∧
      t.split.count = s.split.count + 1 ∧ t.split.cycle = none ∧ t.split.waiting = s.split.waiting ∧
      t.split.started = s.split.started ∧
      t.split.band = x.band ∧ t.split.prevWanted = x.wanted ∧
      t.split.prev = (if cyc.mode = .hybridShared ∨ cyc.mode = .releaseRampDown ∨ cyc.mode = .limpEngineDrive
        then x.engineShare else 0) ∧
      t.ports.slots.replySupervisor = s.ports.slots.replySupervisor ∧
      t.ports.slots.replyService = s.ports.slots.replyService

/-- R76 to R82, R79: with lanes in their ranges, every engine and motor torque a completion emits lies within the lanes
of its cycle, the engine torque is not 0 only in the three coupled rows, and in those it moves by at most `eng_step`
from prev while the slew window is not empty. -/
def Obligations.EmittedTorquesRespectLanesAndSlew : Prop :=
  ∀ (s t : State) (cyc : CycleInputs), s.resetApplied = none → s.split.cycle = some cyc → cyc.lanes.InRange →
    exec .splitCycleCompletion s = .next t →
    let x := t.split.history.newest
    cyc.lanes.engLo ≤ x.engineCmd ∧ x.engineCmd ≤ cyc.lanes.engHi ∧
      cyc.lanes.motLo ≤ x.motorCmd ∧ x.motorCmd ≤ cyc.lanes.motHi ∧ x.engineCmd = x.engineShare ∧
      (x.engineCmd ≠ 0 → cyc.mode = .hybridShared ∨ cyc.mode = .releaseRampDown ∨ cyc.mode = .limpEngineDrive) ∧
      (cyc.mode = .standby ∨ cyc.mode = .safe ∨ cyc.mode.regime = .limpEngine → x.motorCmd = 0) ∧
      (cyc.mode = .hybridShared ∨ cyc.mode = .releaseRampDown ∨ cyc.mode = .limpEngineDrive →
        max cyc.lanes.engLo (s.split.prev - cyc.wp.engStep) ≤ min cyc.lanes.engHi (s.split.prev + cyc.wp.engStep) →
        s.split.prev - cyc.wp.engStep ≤ x.engineCmd ∧ x.engineCmd ≤ s.split.prev + cyc.wp.engStep)

/-- R88, R89, R90, R157, R158, R159: the contents a completion places, row by row of the regime output table, with the
identifiers of the cycle's working parameters; the split report only with `report_enable` 1. A slot that is EMPTY or
WAITING is then WAITING with the new content, and one whose content is on the bus, SENDING or SENDING_NEXT, keeps that
and is SENDING_NEXT with the new content behind it. -/
def Obligations.CommandsFollowTheRegimeTable : Prop :=
  ∀ (s t : State) (cyc : CycleInputs), s.resetApplied = none → s.split.cycle = some cyc →
    exec .splitCycleCompletion s = .next t →
    let x := t.split.history.newest
    let placed (old : Slot) (c : Content) : Slot := match old with
      | .empty | .waiting _ => .waiting c
      | .sending onBus | .sendingNext onBus _ => .sendingNext onBus c
    let eng : Payload := match cyc.mode with
      | .standby | .electric | .limpMotor | .safe => .engineCmd .off 0 0
      | .crankStarter | .limpEngineStart => .engineCmd .starter 0 0
      | .crankClutch | .syncIdle | .releaseOpening => .engineCmd .idle 0 0
      | .syncMatch => .engineCmd .speed 0 cyc.speed
      | .hybridLocking => .engineCmd .torque 0 0
      | .hybridShared | .releaseRampDown | .limpEngineDrive => .engineCmd .torque x.engineCmd 0
    let inv : Payload := match cyc.mode with
      | .standby | .safe | .limpEngineStart | .limpEngineDrive => .inverterCmd .standby 0
      | _ => .inverterCmd .torque x.motorCmd
    let clu : Payload := match cyc.mode with
      | .crankClutch => .clutchCmd .slip cyc.wp.crankReserve
      | .hybridLocking | .hybridShared | .releaseRampDown => .clutchCmd .lock cyc.wp.clutchLockCapacity
      | .limpEngineDrive =>
        if cyc.wp.lockSpeedMin ≤ cyc.speed then .clutchCmd .lock cyc.wp.clutchLockCapacity
        else .clutchCmd .slip |x.engineCmd|
      | _ => .clutchCmd .isOpen 0
    t.ports.slots.engineCmd = placed s.ports.slots.engineCmd ⟨identOf (cyc.wp.at 47), eng⟩ ∧
      t.ports.slots.inverterCmd = placed s.ports.slots.inverterCmd ⟨identOf (cyc.wp.at 48), inv⟩ ∧
      t.ports.slots.clutchCmd = placed s.ports.slots.clutchCmd ⟨identOf (cyc.wp.at 49), clu⟩ ∧
      t.ports.slots.brakeShare = placed s.ports.slots.brakeShare
        ⟨identOf (cyc.wp.at 50), .brakeShare (max 0 (-x.u)) (max 0 (-x.motorCmd))⟩ ∧
      t.ports.slots.splitReport = (if cyc.wp.at 53 = 1 then placed s.ports.slots.splitReport
        ⟨identOf (cyc.wp.at 51), .splitReport x.d x.engineCmd x.motorCmd x.u x.binding cyc.mode⟩
        else s.ports.slots.splitReport)

/-- R69, R70: band selection. With the mark read set the band is the count of the thresholds at or below the SOC;
otherwise it moves by at most one band, up at t(b + 1) + `band_hyst`, down below t(b) − `band_hyst`; and the worked
values of the rule for the default thresholds. Every completed cycle, whatever its form, records the band so selected
from the band of the context and makes it the band of the context, and it clears the recompute mark exactly when it
read the mark set at its start and no latch set it since (log entry 9). -/
def Obligations.BandSelectionFollowsTheThresholds : Prop :=
  (∀ (cyc : CycleInputs) (b : Nat), cyc.recompute = true → selectBand cyc b =
    ([cyc.wp.t1, cyc.wp.t2, cyc.wp.t3].filter fun t => decide (t ≤ cyc.soc)).length) ∧
  (∀ (cyc : CycleInputs) (b : Nat), cyc.recompute = false → cyc.wp.Valid → b ≤ 3 →
    let t (n : Nat) : Int := cyc.wp.at (75 + n)
    (b < 3 → t (b + 1) + cyc.wp.bandHyst ≤ cyc.soc → selectBand cyc b = b + 1) ∧
      (0 < b → cyc.soc < t b - cyc.wp.bandHyst → selectBand cyc b = b - 1) ∧
      ((b = 3 ∨ cyc.soc < t (b + 1) + cyc.wp.bandHyst) → (b = 0 ∨ t b - cyc.wp.bandHyst ≤ cyc.soc) →
        selectBand cyc b = b)) ∧
  (∀ (cyc : CycleInputs), cyc.recompute = false → cyc.wp = State.reset.tables.wp →
    (cyc.soc = 505 → selectBand cyc 1 = 1) ∧ (cyc.soc = 520 → selectBand cyc 1 = 2) ∧
    (cyc.soc = 490 → selectBand cyc 2 = 2) ∧ (cyc.soc = 479 → selectBand cyc 2 = 1) ∧
    (cyc.soc = 0 → selectBand cyc 1 = 0)) ∧
  (∀ (s : State) (cyc : CycleInputs), s.resetApplied = none → s.split.cycle = some cyc →
    ∃ t, exec .splitCycleCompletion s = .next t ∧
      t.split.history.newest.band = selectBand cyc s.split.band ∧ t.split.band = selectBand cyc s.split.band ∧
      (t.split.recompute = true ↔ s.split.recompute = true ∧ (cyc.recompute = false ∨ cyc.remarked = true)))

/-- R71, R72, R73, R22, R23: where a value lies on an axis of two or more breakpoints; the interpolated share and
offset of a cycle with D above 0 are the weighted means of its four corners, failing corners replaced by the fallback
cell, and the cell-fault record names the last failing corner in the read order; the mean is rounded half up and lies
between the least and the greatest corner. With D at or below 0 no cell is read, the record stays and both are 0. Every
completed cycle, whatever its form, records the share and offset so interpolated in the cycle's bank and band for its D,
and leaves the cell-fault record of that reading. -/
def Obligations.InterpolationOfTheFourCorners : Prop :=
  (∀ (bp : Nat → Int) (n : Nat) (x : Int), 2 ≤ n → (∀ i, i + 1 < n → bp i < bp (i + 1)) →
    (x < bp 0 → locate bp n x = ⟨0, 0, bp 1 - bp 0⟩) ∧
    (∀ i, i + 1 < n → bp i ≤ x → x < bp (i + 1) → locate bp n x = ⟨i, x - bp i, bp (i + 1) - bp i⟩) ∧
    (bp (n - 1) ≤ x → locate bp n x = ⟨n - 2, bp (n - 1) - bp (n - 2), bp (n - 1) - bp (n - 2)⟩)) ∧
  (∀ (x y : AxisPos) (v00 v10 v01 v11 lo hi : Int), 0 < x.width → 0 ≤ x.offset → x.offset ≤ x.width → 0 < y.width →
    0 ≤ y.offset → y.offset ≤ y.width →
    lo ≤ v00 → v00 ≤ hi → lo ≤ v10 → v10 ≤ hi → lo ≤ v01 → v01 ≤ hi → lo ≤ v11 → v11 ≤ hi →
    let w := x.width * y.width
    let sum := v00 * (x.width - x.offset) * (y.width - y.offset) + v10 * x.offset * (y.width - y.offset) +
      v01 * (x.width - x.offset) * y.offset + v11 * x.offset * y.offset
    let e := bilinear x y v00 v10 v01 v11
    2 * w * e ≤ 2 * sum + w ∧ 2 * sum + w < 2 * w * (e + 1) ∧ lo ≤ e ∧ e ≤ hi) ∧
  (∀ (bank : Bank) (cyc : CycleInputs) (band : Nat) (d : Int) (cf : CellFault),
    let x := locate cyc.wp.speedBp cyc.wp.nSpeedBp.toNat cyc.speed
    let y := locate cyc.wp.demandBp cyc.wp.nDemandBp.toNat d
    let cell (i j : Nat) := bank.read (mapOf band) (i * 10 + j)
    let used (i j : Nat) : BankFields := match cell i j with
      | .passing f => f
      | .failing => ⟨cyc.wp.fallbackShare, 0⟩
    let noted (i j : Nat) (otherwise : CellFault) : CellFault :=
      if cell i j = .failing then ⟨true, cyc.bank, band, i, j⟩ else otherwise
    let i := x.index
    let j := y.index
    (0 < d → interpolate bank cyc band d cf =
      (bilinear x y (used i j).f1 (used (i + 1) j).f1 (used i (j + 1)).f1 (used (i + 1) (j + 1)).f1,
        bilinear x y (used i j).f2 (used (i + 1) j).f2 (used i (j + 1)).f2 (used (i + 1) (j + 1)).f2,
        noted (i + 1) (j + 1) (noted i (j + 1) (noted (i + 1) j (noted i j cf))))) ∧
    (d ≤ 0 → interpolate bank cyc band d cf = (0, 0, cf))) ∧
  (∀ (s : State) (cyc : CycleInputs), s.resetApplied = none → s.split.cycle = some cyc →
    ∃ t, exec .splitCycleCompletion s = .next t ∧
      let x := t.split.history.newest
      (x.e, x.c, t.tables.cellFault) =
        interpolate (s.tables.bank cyc.bank) cyc x.band x.d s.tables.cellFault)

/-- R74, R76 to R78, R80 to R83: the torques and the binding set of a completed cycle by its form. Plain: the motor
alone serves D within its lanes. Crank: the motor carries `crank_reserve` on top of D and the reserve is taken first.
Zero: nothing is commanded, D is unmet and nothing binds. Coupled: the engine is placed from eng_raw in its lanes and
its slew window, or from prev in its lanes when that window is empty (the window by the formula of R76 step 2, also
where prev lies outside the lanes by less than `eng_step`, log entry 29), the motor serves the rest within its window
(0..0 in LIMP_ENGINE), the engine is rebalanced once inside the slew window, and U is what is left. A member of the
binding set is recorded exactly when one of its clamps changed a value; at the rebalance by the bound that is reached
(log entry 17). -/
def Obligations.TorquesFollowTheForms : Prop :=
  ∀ (s : State) (cyc : CycleInputs), s.resetApplied = none → s.split.cycle = some cyc →
    ∃ t, exec .splitCycleCompletion s = .next t ∧
      let x := t.split.history.newest
      let l := cyc.lanes
      let within (v lo hi : Int) : Int := if v < lo then lo else if hi < v then hi else v
      let gives (engine motor driver u : Int) : Prop :=
        x.engineCmd = engine ∧ x.engineShare = engine ∧ x.motorCmd = motor ∧ x.driverShare = driver ∧ x.u = u
      let binds (engHi engLo motHi motLo engSlew : Prop) : Prop :=
        (x.binding.engHi = true ↔ engHi) ∧ (x.binding.engLo = true ↔ engLo) ∧ (x.binding.motHi = true ↔ motHi) ∧
          (x.binding.motLo = true ↔ motLo) ∧ (x.binding.engSlew = true ↔ engSlew)
      (cyc.mode = .releaseRampDown → x.engRaw = 0) ∧
      (cyc.mode ≠ .releaseRampDown → x.d ≤ 0 → x.engRaw = l.engLo) ∧
      (cyc.mode ≠ .releaseRampDown → 0 < x.d → 0 ≤ x.e → x.engRaw = (2 * (x.d * x.e) + 1000) / 2000 + x.c) ∧
      (match cyc.mode with
      | .electric | .crankStarter | .syncIdle | .syncMatch | .hybridLocking | .releaseOpening | .limpMotor =>
        let m := within x.d l.motLo l.motHi
        gives 0 m m (x.d - m) ∧ binds False False (m < x.d) (x.d < m) False
      | .crankClutch =>
        let want := x.d + cyc.wp.crankReserve
        let m := within want l.motLo l.motHi
        gives 0 m (m - cyc.wp.crankReserve) (x.d - (m - cyc.wp.crankReserve)) ∧
          binds False False (m < want) (want < m) False
      | .standby | .safe | .limpEngineStart => gives 0 0 0 x.d ∧ binds False False False False False
      | .hybridShared | .releaseRampDown | .limpEngineDrive =>
        let prev := s.split.prev
        let wlo := max l.engLo (prev - cyc.wp.engStep)
        let whi := min l.engHi (prev + cyc.wp.engStep)
        let eng1 := within x.engRaw l.engLo l.engHi
        let eng2 := if wlo ≤ whi then within eng1 wlo whi else within prev l.engLo l.engHi
        let want := x.d - eng2
        let mot1 := if cyc.mode = .limpEngineDrive then within want 0 0 else within want l.motLo l.motHi
        let again : Prop := mot1 ≠ want ∧ wlo ≤ whi
        let rest := x.d - mot1
        let eng3 := if mot1 ≠ want ∧ wlo ≤ whi then within rest wlo whi else eng2
        gives eng3 mot1 mot1 (x.d - eng3 - mot1) ∧
          binds
            (eng1 < x.engRaw ∨ (whi < wlo ∧ eng2 < prev) ∨ (again ∧ eng3 < rest ∧ eng3 = l.engHi))
            (x.engRaw < eng1 ∨ (whi < wlo ∧ prev < eng2) ∨ (again ∧ rest < eng3 ∧ eng3 = l.engLo))
            (mot1 < want) (want < mot1)
            ((wlo ≤ whi ∧ eng2 ≠ eng1) ∨ (again ∧ eng3 < rest ∧ eng3 = prev + cyc.wp.engStep) ∨
              (again ∧ rest < eng3 ∧ eng3 = prev - cyc.wp.engStep)))

/-- R84: the ordered cases of the engine-wanted flag, and that every completed cycle, whatever its form and regime,
records the flag they give from its D, its e and c, and the flag of the cycle before. -/
def Obligations.EngineWantedFollowsTheCases : Prop :=
  (∀ (cyc : CycleInputs) (prev : Bool) (d e c : Int),
    (cyc.inhibit = true → engineWanted cyc prev d e c = false) ∧
    (cyc.zone = true → cyc.wp.socZoneFloor ≤ cyc.soc → engineWanted cyc prev d e c = false) ∧
    (cyc.inhibit = false → (cyc.zone = false ∨ cyc.soc < cyc.wp.socZoneFloor) →
      (0 < d → cyc.wp.eOn ≤ e ∨ 0 < c → engineWanted cyc prev d e c = true) ∧
      (cyc.soc < cyc.wp.socFloor → engineWanted cyc prev d e c = true) ∧
      (cyc.hold = true → engineWanted cyc prev d e c = true) ∧
      (cyc.wp.socFloor ≤ cyc.soc → cyc.hold = false → d ≤ 0 → engineWanted cyc prev d e c = false) ∧
      (cyc.wp.socFloor ≤ cyc.soc → cyc.hold = false → 0 < d → c ≤ 0 → e < cyc.wp.eOn →
        engineWanted cyc prev d e c = (if e < cyc.wp.eOff then false else prev)))) ∧
  (∀ (s : State) (cyc : CycleInputs), s.resetApplied = none → s.split.cycle = some cyc →
    ∃ t, exec .splitCycleCompletion s = .next t ∧
      let x := t.split.history.newest
      x.wanted = engineWanted cyc s.split.prevWanted x.d x.e x.c ∧ t.split.prevWanted = x.wanted)

/-! ### Regime Controller -/

/-- R123, R124, R125: at a cycle start a SAFE consequence takes every regime but STANDBY to SAFE with SAFE_N low, and
SAFE is left, for STANDBY with SAFE_N released, exactly when the effective READY is clear (clear in NEVER and LAPSED of
DEMAND, R37) and the consequence is not SAFE. -/
def Obligations.SafeIsEnteredAndLeftAtCycleStarts : Prop :=
  ∀ (s : State) (k : CycleKind), s.resetApplied = none → s.split.cycle = none → s.split.waiting = some k →
    ∃ t, exec .splitCycleStart s = .next t ∧
      let live : Bool := match s.intake.streams.demand.state with
        | .fresh | .held => true
        | .never | .lapsed => false
      (s.consequence = .safe → s.regime.mode = .standby → t.regime.mode = .standby) ∧
      (s.consequence = .safe → s.regime.mode ≠ .standby → s.regime.mode ≠ .safe →
        t.regime.mode = .safe ∧ t.regime.safeNLow = true ∧ t.regime.crankT = .stopped ∧ t.regime.syncT = .stopped ∧
          t.regime.clutchT = .stopped ∧ t.regime.retryT = .stopped ∧ t.regime.minRun = .idle ∧
          t.regime.matchCount = 0 ∧ t.regime.dest = .electric) ∧
      (s.regime.mode = .safe → (t.regime.mode = .standby ↔
        (live && s.intake.demand.ready) = false ∧ s.consequence ≠ .safe) ∧
        (t.regime.mode ≠ .standby → t.regime.mode = .safe ∧ t.regime.safeNLow = s.regime.safeNLow) ∧
        (t.regime.mode = .standby → t.regime.safeNLow = false))

/-- R96, R9, R134: the combined consequence of every state, by the first case that applies, over the sources in ACTIVE
or AWAIT_ACK, a fault-map entry that fails its check read as the default of its source: SAFE where any gives SAFE,
where LIMP_ENGINE and LIMP_MOTOR are both given, and where LIMP_ENGINE is given and any forced set holds CLUTCH_LOCK;
else the one LIMP that is given; else none. R105, R99 steps 3 and 4: STANDBY is left at a cycle start exactly when the
effective READY is set (R37), the active bank is verified, no pin-reset walk runs, all six streams have left NEVER, the
combined consequence is not SAFE, and the start is not the first after a reset, which R127 and R168 fix in STANDBY (log
entry 23); and then for the regime the consequence names, LIMP_ENGINE with its phase by the effective running flag
(R120). -/
def Obligations.StandbyIsLeftExactlyWhenAllowed : Prop :=
  (∀ s : State,
    let gives (c : Consequence) : Prop := ∃ i : Fin 12,
      (s.faults.sources[i].state = .active ∨ s.faults.sources[i].state = .awaitAck) ∧
        (s.tables.readFaultEntry i).consequence = c
    let locks : Prop := ∃ i : Fin 12,
      (s.faults.sources[i].state = .active ∨ s.faults.sources[i].state = .awaitAck) ∧
        (s.tables.readFaultEntry i).forced.clutchLock = true
    (gives .safe → s.consequence = .safe) ∧
    (gives .limpEngine → gives .limpMotor → s.consequence = .safe) ∧
    (gives .limpEngine → locks → s.consequence = .safe) ∧
    (¬gives .safe → gives .limpEngine → ¬gives .limpMotor → ¬locks → s.consequence = .limpEngine) ∧
    (¬gives .safe → ¬gives .limpEngine → gives .limpMotor → s.consequence = .limpMotor) ∧
    (¬gives .safe → ¬gives .limpEngine → ¬gives .limpMotor → s.consequence = .none)) ∧
  (∀ (s : State) (k : CycleKind), s.resetApplied = none → s.split.cycle = none → s.split.waiting = some k →
    s.regime.mode = .standby → ∃ t, exec .splitCycleStart s = .next t ∧
      let live (r : Role) : Bool := match (s.intake.streams.get r).state with
        | .fresh | .held => true
        | .never | .lapsed => false
      (t.regime.mode ≠ .standby ↔
        s.split.started = true ∧ live .demand = true ∧ s.intake.demand.ready = true ∧
          s.tables.verified s.tables.selector = true ∧
          (∀ pos seen, s.tables.walk ≠ .running .pinReset pos seen) ∧
          (∀ r : Role, (s.intake.streams.get r).state ≠ .never) ∧ s.consequence ≠ .safe) ∧
      (t.regime.mode ≠ .standby → t.regime.mode = (match s.consequence with
        | .none => .electric
        | .limpEngine => if live .engine && s.intake.engine.running then .limpEngineDrive else .limpEngineStart
        | .limpMotor => .limpMotor
        | .safe => .standby)))

/-- R99 steps 2 and 3 with what steps 5 and 6 make of their outcome (R98, R104, R120, R121, R122): a cycle start in a
regime other than STANDBY and SAFE, with no SAFE consequence, that finds READY clear or a LIMP regime or consequence.
READY, the running flag, the shaft speed and the clutch state are effective values: as stored in FRESH and HELD, and
clear, clear, 0 and SLIPPING in NEVER and LAPSED (R37). A clear READY takes ELECTRIC, CRANK and the LIMP regimes to
STANDBY, SYNC to RELEASE OPENING, HYBRID to RELEASE RAMP_DOWN and RELEASE to its phase, each with destination STANDBY,
and RAMP_DOWN goes on to OPENING under the CLUTCH_LOCK reading, below `unlock_speed` or with ENGINE lapsed. A LIMP
consequence takes every regime but its own, and but one that READY took to STANDBY, to that LIMP, abandoning what is in
flight. With no consequence left and READY set the LIMP regimes are left: DRIVE for HYBRID SHARED with the clutch
locked and the CLUTCH_LOCK reading clear, and for SYNC otherwise, START and LIMP_MOTOR for ELECTRIC. The regime state
is otherwise as before; a swap taken at the same start may lower the attempt count and clears the dwell counts (R19,
R110). -/
def Obligations.ReadyAndLimpAreSettledAtCycleStarts : Prop :=
  ∀ (s : State) (k : CycleKind), s.resetApplied = none → s.split.cycle = none → s.split.waiting = some k →
    s.consequence ≠ .safe → s.regime.mode ≠ .standby → s.regime.mode ≠ .safe →
    ∃ t, exec .splitCycleStart s = .next t ∧
      let r := s.regime
      let wp := s.tables.wp
      let live (r : Role) : Bool := match (s.intake.streams.get r).state with
        | .fresh | .held => true
        | .never | .lapsed => false
      let ready : Prop := live .demand = true ∧ s.intake.demand.ready = true
      let running : Bool := live .engine && s.intake.engine.running
      let speed : Int := if live .inverter then s.intake.inverter.speed else 0
      let clutch : ClutchState := if live .clutch then s.intake.clutch.state else .slipping
      let lapsed : Prop := s.intake.streams.engine.state = .lapsed
      let slow : Prop := speed < wp.unlockSpeed
      let parks : Prop := r.mode.regime = .electric ∨ r.mode.regime = .crank ∨ r.mode.regime = .limpEngine ∨
        r.mode.regime = .limpMotor
      let becomes (x : RegimeState) : Prop :=
        t.regime = { x with attempts := t.regime.attempts, want := t.regime.want, unwant := t.regime.unwant } ∧
          t.regime.attempts ≤ x.attempts ∧ (s.tables.swapPending = false → t.regime = x)
      let entered (m : Mode) : RegimeState := { r with
        mode := m, crankT := .stopped, syncT := .stopped, clutchT := .stopped, safeNLow := false }
      let opening (count : Nat) (dest : Destination) : RegimeState := { entered .releaseOpening with
        matchCount := count, clutchT := .running wp.clutchTimeout.toNat, dest := dest }
      let limp (m : Mode) : RegimeState := { entered m with
        matchCount := 0, retryT := .stopped, dest := .electric
        crankT := if m = .limpEngineStart then .running wp.crankTimeout.toNat else .stopped
        minRun := if m = .limpEngineDrive then r.minRun else .idle }
      (¬ready → parks → becomes { entered .standby with retryT := .stopped, minRun := .idle }) ∧
      (¬ready → s.consequence = .none →
        (r.mode.regime = .sync → becomes (opening 0 .standby)) ∧
        (r.mode.regime = .hybrid ∨ r.mode = .releaseRampDown →
          (s.lockReading = true ∨ slow ∨ lapsed → becomes (opening r.matchCount .standby)) ∧
          (s.lockReading = false → ¬slow → ¬lapsed → r.mode.regime = .hybrid →
            becomes { entered .releaseRampDown with dest := .standby }) ∧
          (s.lockReading = false → ¬slow → ¬lapsed → r.mode = .releaseRampDown →
            becomes { r with dest := .standby })) ∧
        (r.mode = .releaseOpening → becomes { r with dest := .standby })) ∧
      (s.consequence = .limpEngine → ready ∨ ¬parks →
        (r.mode.regime ≠ .limpEngine → becomes (limp (if running then .limpEngineDrive else .limpEngineStart))) ∧
        (r.mode = .limpEngineDrive → lapsed → becomes (limp .limpEngineStart)) ∧
        (r.mode.regime = .limpEngine → r.mode = .limpEngineStart ∨ ¬lapsed → becomes r)) ∧
      (s.consequence = .limpMotor → ready ∨ ¬parks →
        (r.mode ≠ .limpMotor → becomes (limp .limpMotor)) ∧ (r.mode = .limpMotor → becomes r)) ∧
      (s.consequence = .none → ready →
        (r.mode = .limpEngineStart ∨ r.mode = .limpMotor → becomes { entered .electric with minRun := .idle }) ∧
        (r.mode = .limpEngineDrive → clutch = .locked → s.lockReading = false →
          (¬lapsed → ¬slow → becomes { entered .hybridShared with attempts := 0 }) ∧
          (¬lapsed → slow → becomes { entered .syncIdle with attempts := 0, matchCount := 0 }) ∧
          (lapsed → becomes { opening (if speed < wp.unlockSpeed then 0 else r.matchCount) .electric
            with attempts := 0 })) ∧
        (r.mode = .limpEngineDrive → clutch ≠ .locked ∨ s.lockReading = true →
          (¬lapsed → speed < wp.lockSpeedMin →
            becomes { entered .syncIdle with matchCount := 0 }) ∧
          (¬lapsed → wp.lockSpeedMin ≤ speed →
            becomes { entered .syncMatch with matchCount := 0, syncT := .running wp.syncTimeout.toNat }) ∧
          (lapsed → becomes (opening 0 .electric))))

/-- R99 steps 5 and 6 (R97, R111, R115, R117, R119): a cycle start with the effective READY set (DEMAND FRESH or HELD,
R37) and no consequence, in each regime but STANDBY, SAFE and the LIMP regimes. Under the CLUTCH_LOCK reading HYBRID
goes to RELEASE OPENING with destination ELECTRIC and RELEASE RAMP_DOWN to OPENING with its destination kept. The phase
of SYNC is set from the effective shaft speed (0 in NEVER and LAPSED of INVERTER), the sync timer and the match count
kept where it is right already. Below `unlock_speed` HYBRID enters SYNC IDLE and RAMP_DOWN enters OPENING. A lapsed
ENGINE stream is a stall. ELECTRIC, CRANK and RELEASE OPENING stay. -/
def Obligations.LockSpeedAndStallAreSettledAtCycleStarts : Prop :=
  ∀ (s : State) (k : CycleKind), s.resetApplied = none → s.split.cycle = none → s.split.waiting = some k →
    s.consequence = .none → s.intake.streams.demand.state = .fresh ∨ s.intake.streams.demand.state = .held →
    s.intake.demand.ready = true →
    ∃ t, exec .splitCycleStart s = .next t ∧
      let r := s.regime
      let wp := s.tables.wp
      let speed : Int := match s.intake.streams.inverter.state with
        | .fresh | .held => s.intake.inverter.speed
        | .never | .lapsed => 0
      let lapsed : Prop := s.intake.streams.engine.state = .lapsed
      let slow : Prop := speed < wp.unlockSpeed
      let becomes (x : RegimeState) : Prop :=
        t.regime = { x with attempts := t.regime.attempts, want := t.regime.want, unwant := t.regime.unwant } ∧
          t.regime.attempts ≤ x.attempts ∧ (s.tables.swapPending = false → t.regime = x)
      let entered (m : Mode) : RegimeState := { r with
        mode := m, crankT := .stopped, syncT := .stopped, clutchT := .stopped, safeNLow := false }
      let opening (count : Nat) (dest : Destination) : RegimeState := { entered .releaseOpening with
        matchCount := count, clutchT := .running wp.clutchTimeout.toNat, dest := dest }
      (r.mode = .electric ∨ r.mode.regime = .crank ∨ r.mode = .releaseOpening → becomes r) ∧
      (r.mode.regime = .hybrid →
        (s.lockReading = true → becomes (opening r.matchCount .electric)) ∧
        (s.lockReading = false → lapsed → slow → becomes (opening 0 .electric)) ∧
        (s.lockReading = false → lapsed → ¬slow → becomes (opening r.matchCount .electric)) ∧
        (s.lockReading = false → ¬lapsed → slow → becomes { entered .syncIdle with matchCount := 0 }) ∧
        (s.lockReading = false → ¬lapsed → ¬slow → becomes r)) ∧
      (r.mode = .releaseRampDown →
        (s.lockReading = true ∨ slow ∨ lapsed → becomes (opening r.matchCount r.dest)) ∧
        (s.lockReading = false → ¬slow → ¬lapsed → becomes r)) ∧
      (r.mode.regime = .sync →
        (lapsed → becomes (opening 0 .electric)) ∧
        (¬lapsed → speed < wp.lockSpeedMin →
          (r.mode = .syncIdle → becomes r) ∧
          (r.mode = .syncMatch → becomes { entered .syncIdle with matchCount := 0 })) ∧
        (¬lapsed → wp.lockSpeedMin ≤ speed →
          (r.mode = .syncMatch → becomes r) ∧
          (r.mode = .syncIdle →
            becomes { entered .syncMatch with matchCount := 0, syncT := .running wp.syncTimeout.toNat })))

/-- R97, R9, R134: the CLUTCH_LOCK reading is set exactly when some source in ACTIVE or AWAIT_ACK has CLUTCH_LOCK in
its forced set, a fault-map entry that fails its check read as the default of its source. The cycle that starts under
the CLUTCH_LOCK reading never commands LOCK. Whatever comes between the start and the completion, and whatever the
shaft speed, a cycle under way with the regime and phase that such a start fixed places a CLUTCH_CMD content whose
target is not LOCK: LIMP_ENGINE, which commands LOCK above `lock_speed_min`, does not stand under the reading (R96). -/
def Obligations.LockIsNeverCommandedUnderTheLockReading : Prop :=
  (∀ s : State, s.lockReading = true ↔ ∃ i : Fin 12,
    (s.faults.sources[i].state = .active ∨ s.faults.sources[i].state = .awaitAck) ∧
      (s.tables.readFaultEntry i).forced.clutchLock = true) ∧
  (∀ (s : State) (k : CycleKind), s.resetApplied = none → s.split.cycle = none → s.split.waiting = some k →
    s.lockReading = true → ∃ t fixed, exec .splitCycleStart s = .next t ∧ t.split.cycle = some fixed ∧
      ∀ (u : State) (cyc : CycleInputs), u.resetApplied = none → u.split.cycle = some cyc → cyc.mode = fixed.mode →
        ∃ v id target cap, exec .splitCycleCompletion u = .next v ∧ target ≠ .lock ∧
          v.ports.slots.clutchCmd = u.ports.slots.clutchCmd.place ⟨id, .clutchCmd target cap⟩)

/-- R100, R106, R113, R116, R117, R101: at a completion the dwell counts follow the wanted flag, and then the regime
standing is tested. ELECTRIC enters CRANK exactly when want_count has reached `on_dwell`, the retry timer is stopped,
CRANK_FAIL is CLEAR, the attempt count is below its maximum and ENGINE is FRESH, by the start method of the cycle's
shaft speed. SYNC is released to RELEASE OPENING, and HYBRID SHARED to RELEASE RAMP_DOWN, with destination ELECTRIC
exactly when unwant_count has reached `off_dwell` and the min-run state is not RUNNING. RAMP_DOWN, when the cycle was
fixed in it, returns to HYBRID SHARED when the engine is wanted, the destination is ELECTRIC and the CLUTCH_LOCK
reading is clear, and otherwise enters OPENING when the engine command is 0. No other regime is tested, and nothing
else of the Regime Controller changes. -/
def Obligations.CompletionTestsFollowTheRegime : Prop :=
  ∀ (s : State) (cyc : CycleInputs), s.resetApplied = none → s.split.cycle = some cyc →
    ∃ t, exec .splitCycleCompletion s = .next t ∧
      t.regime.want = (if t.split.prevWanted then min (s.regime.want + 1) 255 else 0) ∧
      t.regime.unwant = (if t.split.prevWanted then 0 else min (s.regime.unwant + 1) 65535) ∧
      let wp := s.tables.wp
      let r : RegimeState := { s.regime with want := t.regime.want, unwant := t.regime.unwant }
      let entered (m : Mode) : RegimeState := { r with
        mode := m, crankT := .stopped, syncT := .stopped, clutchT := .stopped, safeNLow := false }
      let cranks : Prop := wp.onDwell ≤ (t.regime.want : Int) ∧ s.regime.retryT = .stopped ∧
        s.faults.sources[srcCrankFail].state = .clear ∧ (s.regime.attempts : Int) < wp.crankAttemptsMax ∧
        s.intake.streams.engine.state = .fresh
      let due : Prop := wp.offDwell ≤ (t.regime.unwant : Int) ∧ ∀ period, s.regime.minRun ≠ .running period
      let returns : Prop := t.split.prevWanted = true ∧ s.regime.dest = .electric ∧ s.lockReading = false
      (match s.regime.mode with
      | .electric =>
        (cranks → t.regime = { entered (if cyc.speed < wp.lockSpeedMin then .crankStarter else .crankClutch) with
          matchCount := 0, crankT := .running wp.crankTimeout.toNat }) ∧ (¬cranks → t.regime = r)
      | .syncIdle | .syncMatch =>
        (due → t.regime = { entered .releaseOpening with
          matchCount := 0, clutchT := .running wp.clutchTimeout.toNat, dest := .electric }) ∧ (¬due → t.regime = r)
      | .hybridShared => (due → t.regime = { entered .releaseRampDown with dest := .electric }) ∧ (¬due → t.regime = r)
      | .releaseRampDown =>
        (cyc.mode ≠ .releaseRampDown → t.regime = r) ∧
        (cyc.mode = .releaseRampDown →
          (returns → t.regime = { entered .hybridShared with attempts := 0 }) ∧
          (¬returns → t.split.history.newest.engineCmd = 0 →
            t.regime = { entered .releaseOpening with clutchT := .running wp.clutchTimeout.toNat }) ∧
          (¬returns → t.split.history.newest.engineCmd ≠ 0 → t.regime = r))
      | .standby | .crankStarter | .crankClutch | .hybridLocking | .releaseOpening | .limpEngineStart | .limpEngineDrive
      | .limpMotor | .safe => t.regime = r)

/-- R103, R108, R111, R112, R114, R118, R119, R120: what every ENGINE and every CLUTCH acceptance makes of the Regime
Controller, in each regime, with the effective shaft speed (0 in NEVER and LAPSED of INVERTER, R37). ENGINE: the
running confirmation enters SYNC from CRANK and DRIVE from LIMP_ENGINE START, and an unconfirmed report changes nothing
there; a clear running flag is a stall in SYNC, HYBRID, RAMP_DOWN and DRIVE; in SYNC MATCH a report outside
`sync_window` sets the match count to 0 and one inside raises it, and the count that reaches `sync_confirm` enters
HYBRID LOCKING unless the CLUTCH_LOCK reading is set, before or after this acceptance's own fault flag where the two
differ (log entry 6); the rest changes nothing. CLUTCH: LOCKED in LOCKING enters HYBRID SHARED, OPEN in RELEASE OPENING
enters the destination, and every other report changes nothing. -/
def Obligations.ReportsMoveTheRegime : Prop :=
  ∀ (p : Port) (role : Role) (a : FwdAction) (f : Frame) (s : State), s.Classifies p f →
    s.tables.classify p f.id = (a, some role) → a = .consume ∨ a = .consumePass →
    (s.intake.streams.get role).Accepts f → ∃ t, exec (.frameReceived p f) s = .next t ∧
      let r := s.regime
      let wp := s.tables.wp
      let v := t.intake.engine
      let speed : Int := match s.intake.streams.inverter.state with
        | .fresh | .held => s.intake.inverter.speed
        | .never | .lapsed => 0
      let confirmed : Prop := v.running = true ∧ wp.idleConfirm ≤ v.speed
      let started : MinRun := if wp.minRun ≤ 0 then .expired else .running wp.minRun.toNat
      let entered (m : Mode) : RegimeState := { r with
        mode := m, crankT := .stopped, syncT := .stopped, clutchT := .stopped, safeNLow := false }
      let opening (count : Nat) (dest : Destination) : RegimeState := { entered .releaseOpening with
        matchCount := count, clutchT := .running wp.clutchTimeout.toNat, dest := dest }
      let stalled (x : RegimeState) : Prop := (v.running = false → t.regime = x) ∧ (v.running = true → t.regime = r)
      (role = .engine → match r.mode with
        | .crankStarter | .crankClutch =>
          (confirmed → speed < wp.lockSpeedMin →
            t.regime = { entered .syncIdle with matchCount := 0, minRun := started }) ∧
          (confirmed → wp.lockSpeedMin ≤ speed → t.regime = { entered .syncMatch with
            matchCount := 0, syncT := .running wp.syncTimeout.toNat, minRun := started }) ∧
          (¬confirmed → t.regime = r)
        | .limpEngineStart =>
          (confirmed → t.regime = { entered .limpEngineDrive with
            matchCount := 0, retryT := .stopped, minRun := started, dest := .electric }) ∧ (¬confirmed → t.regime = r)
        | .syncMatch =>
          (v.running = false → t.regime = opening 0 .electric) ∧
          (v.running = true → wp.syncWindow < |v.speed - speed| → t.regime = { r with matchCount := 0 }) ∧
          (v.running = true → |v.speed - speed| ≤ wp.syncWindow →
            ((r.matchCount : Int) + 1 < wp.syncConfirm → t.regime = { r with matchCount := r.matchCount + 1 }) ∧
            (wp.syncConfirm ≤ (r.matchCount : Int) + 1 →
              let locks : Prop := t.regime = { entered .hybridLocking with
                matchCount := wp.syncConfirm.toNat, clutchT := .running wp.clutchTimeout.toNat }
              let held : Prop := t.regime = { r with matchCount := wp.syncConfirm.toNat }
              (locks ∨ held) ∧ (s.lockReading = false → t.lockReading = false → locks) ∧
                (s.intake.streams.engine.state ≠ .lapsed → s.lockReading = true → t.lockReading = true → held)))
        | .syncIdle => stalled (opening 0 .electric)
        | .hybridLocking | .hybridShared => stalled (opening r.matchCount .electric)
        | .releaseRampDown => stalled (opening r.matchCount r.dest)
        | .limpEngineDrive => stalled { entered .limpEngineStart with
            matchCount := 0, crankT := .running wp.crankTimeout.toNat, retryT := .stopped, minRun := .idle,
            dest := .electric }
        | .standby | .electric | .releaseOpening | .limpMotor | .safe => t.regime = r) ∧
      (role = .clutch → match r.mode, t.intake.clutch.state with
        | .hybridLocking, .locked => t.regime = { entered .hybridShared with attempts := 0 }
        | .releaseOpening, .isOpen => t.regime = (match r.dest with
          | .electric => { entered .electric with minRun := .idle }
          | .standby => { entered .standby with minRun := .idle, retryT := .stopped })
        | _, _ => t.regime = r)

/-- R103, R107, R109, R110, R113, R114, R118, R120, R131, R132, R134, R135: the five expiries of the Regime Controller.
The crank timer in CRANK raises the attempt count by one, enters ELECTRIC and starts the retry timer when `retry_wait`
is above 0; the count that reaches its maximum raises and removes CRANK_FAIL, found CLEAR, in the one event; in
LIMP_ENGINE START the regime enters SAFE with SAFE_N low. The sync timer in SYNC MATCH enters RELEASE OPENING with
destination ELECTRIC, the match count 0 and the clutch timer started; the clutch timer in HYBRID LOCKING or RELEASE
OPENING stops and raises the timeout part of CLUTCH_FAULT, the regime staying; the retry timer stops; the min-run state
becomes EXPIRED. Nothing else changes at these expiries; the crank, sync and clutch timers run in no other regime
(R102). -/
def Obligations.RegimeTimerExpiries : Prop :=
  (∀ s : State, s.resetApplied = none → s.regime.crankT.isRunning = true →
    ∃ t, exec .crankTimerExpiry s = .next t ∧ t = { s with regime := t.regime, faults := t.faults } ∧
      (∀ i : Fin 12, i ≠ srcCrankFail → t.faults.sources[i] = s.faults.sources[i]) ∧
      (s.regime.mode.regime = .crank →
        t.regime = { s.regime with
          mode := .electric, attempts := s.regime.attempts + 1, minRun := .idle, safeNLow := false
          crankT := .stopped, syncT := .stopped, clutchT := .stopped
          retryT := if s.tables.wp.retryWait ≤ 0 then s.regime.retryT else .running s.tables.wp.retryWait.toNat } ∧
        (((s.regime.attempts + 1 : Nat) : Int) ≠ s.tables.wp.crankAttemptsMax → t.faults = s.faults) ∧
        (((s.regime.attempts + 1 : Nat) : Int) = s.tables.wp.crankAttemptsMax →
          s.faults.sources[srcCrankFail] = ⟨.clear, false, false⟩ →
          t.faults.sources[srcCrankFail] = ⟨match (s.tables.readFaultEntry srcCrankFail).clearMode with
            | .auto => .clear
            | .manual => .awaitAck, false, false⟩)) ∧
      (s.regime.mode = .limpEngineStart →
        t = { s with regime := { s.regime with
          mode := .safe, matchCount := 0, minRun := .idle, dest := .electric, safeNLow := true
          crankT := .stopped, syncT := .stopped, clutchT := .stopped, retryT := .stopped } })) ∧
  (∀ s : State, s.resetApplied = none →
    (s.regime.syncT.isRunning = true → s.regime.mode = .syncMatch →
      exec .syncTimerExpiry s = .next { s with regime := { s.regime with
        mode := .releaseOpening, matchCount := 0, crankT := .stopped, syncT := .stopped,
        clutchT := .running s.tables.wp.clutchTimeout.toNat, dest := .electric, safeNLow := false } }) ∧
    (s.regime.clutchT.isRunning = true → s.regime.mode = .hybridLocking ∨ s.regime.mode = .releaseOpening →
      ∃ t, exec .clutchTimerExpiry s = .next t ∧
        t = { s with regime := { s.regime with clutchT := .stopped }, faults := t.faults } ∧
        t.faults.sources[srcClutchFault] =
          { s.faults.sources[srcClutchFault] with state := .active, timeout := true } ∧
        (∀ i : Fin 12, i ≠ srcClutchFault → t.faults.sources[i] = s.faults.sources[i])) ∧
    (s.regime.retryT.isRunning = true →
      exec .retryTimerExpiry s = .next { s with regime := { s.regime with retryT := .stopped } }) ∧
    (∀ period, s.regime.minRun = .running period →
      exec .minRunExpiry s = .next { s with regime := { s.regime with minRun := .expired } }))

/-- R94, R102, R103, R110, R112, R125, R127: every step keeps the Regime Controller's timers in the regimes they belong
to, the dwell counts in their ranges, SAFE_N low exactly in SAFE and while a reset is applied, and STANDBY until the
first cycle after a reset has started; and, with the working parameters valid, the crank attempt count within
`crank_attempts_max` and the match count within 0..20, and within `sync_confirm` in SYNC. -/
def Obligations.StepKeepsRegimeConsistent : Prop :=
  (∀ s t : State, RegimeInv s → step s = .next t → RegimeInv t) ∧
  (∀ s t : State, AttemptsInv s → step s = .next t → AttemptsInv t)

/-! ### Watch Unit -/

/-- R143, R147, R148: an evaluation of an enabled watch entry moves its state by the value compared, the threshold, the
hysteresis and the regime mask, ABOVE and BELOW each by its own tests, sets the fired flag exactly at a move from IDLE
to MATCHED, and moves no other watch. -/
def Obligations.EvaluationMovesTheWatch : Prop :=
  ∀ (t : TableStore) (ev : Evaluation) (m : Mode) (count : BitVec 16) (ix : Nat) (w : WatchUnit) (i : Fin 16)
    (e : WatchEntry) (v : Int), t.watch[i] = .passing e → e.enable = true → 0 ≤ e.hysteresis →
    ev.value e.quantity = some v →
    let u := w.evaluateOne t ev m count ix i
    let inside : Prop := (e.comparison = .above ∧ e.threshold ≤ v) ∨ (e.comparison = .below ∧ v ≤ e.threshold)
    let past : Prop := (e.comparison = .above ∧ v < e.threshold - e.hysteresis) ∨
      (e.comparison = .below ∧ e.threshold + e.hysteresis < v)
    let covered : Prop := e.mask.getLsbD (match m with
      | .standby => 0 | .electric => 1 | .crankStarter | .crankClutch => 2 | .syncIdle | .syncMatch => 3
      | .hybridLocking | .hybridShared => 4 | .releaseRampDown | .releaseOpening => 5
      | .limpEngineStart | .limpEngineDrive => 6 | .limpMotor => 7 | .safe => 8) = true
    (w.cells[i].state = .disabled → u.cells[i].state = .disabled) ∧
      (w.cells[i].state = .waiting → (covered ∧ inside → u.cells[i].state = .waiting) ∧
        (¬(covered ∧ inside) → u.cells[i].state = .idle)) ∧
      (w.cells[i].state = .idle → (covered ∧ inside → u.cells[i].state = .matched) ∧
        (¬(covered ∧ inside) → u.cells[i].state = .idle)) ∧
      (w.cells[i].state = .matched → (¬covered ∨ past → u.cells[i].state = .idle) ∧
        (covered → ¬past → u.cells[i].state = .matched)) ∧
      (u.cells[i].fired = true ↔ w.cells[i].fired = true ∨ (w.cells[i].state = .idle ∧ covered ∧ inside)) ∧
      (∀ j : Fin 16, j ≠ i → u.cells[j] = w.cells[j])

/-- R148, R152, R153, R156: no command takes a watch that is WAITING or DISABLED to MATCHED, and none sets the fired
flag of such a watch: a condition that stood when the entry was written never fires it. -/
def Obligations.WaitingWatchNeverFires : Prop :=
  ∀ (c : Instr) (s t : State) (i : Fin 16), exec c s = .next t →
    s.watch.cells[i].state = .waiting ∨ s.watch.cells[i].state = .disabled →
    t.watch.cells[i].state ≠ .matched ∧ (t.watch.cells[i].fired = true → s.watch.cells[i].fired = true)

/-- R144, R147, R149, R150, R153: which events evaluate which watches, and the one notice a NOTIFY firing offers. A
BATTERY acceptance evaluates, for every entry in ascending order, SOC and BATT_TEMP, an INVERTER acceptance SHAFT_SPEED
and MOTOR_TEMP, an ENGINE acceptance COOLANT_TEMP, with the newly stored values in the regime standing, for ENGINE the
one before or after the Regime Controller has taken the report (log entry 6); a DEMAND, CLUTCH or BRAKE acceptance
evaluates none. A cycle completion evaluates DEMAND and UNMET with its D and U in the regime the cycle fixed. An entry
whose quantity the event does not concern, or that is not enabled, is left as it is, and a failing one is left or held
DISABLED (log entry 7). A watch in IDLE whose enabled NOTIFY entry is found true (its mask covers the regime and its
comparison holds) goes to MATCHED with its fired flag set; its notice, with the identifier of that moment (log entry
20), joins the tail of the queue when the flag was clear and fewer than 8 stand there, a full queue sets the overflow
flag instead, and a flag that was set forms none; no other watch moves. Every other evaluation, a firing of an entry
with another action among them, leaves the queue and the overflow flag as they are. -/
def Obligations.EvaluatingEventsAndTheirNotices : Prop :=
  (∀ (p : Port) (r : Role) (a : FwdAction) (f : Frame) (s : State), s.Classifies p f →
    s.tables.classify p f.id = (a, some r) → a = .consume ∨ a = .consumePass →
    (s.intake.streams.get r).Accepts f → ∃ t, exec (.frameReceived p f) s = .next t ∧
      let after (ev : Evaluation) (m : Mode) : WatchUnit := (List.finRange 16).foldl
        (fun w i => w.evaluateOne s.tables ev m s.split.count s.freeIx i) s.watch
      match r with
      | .battery =>
        t.watch = after [(.soc, t.intake.battery.soc), (.battTemp, t.intake.battery.temp)] s.regime.mode
      | .inverter =>
        t.watch = after [(.shaftSpeed, t.intake.inverter.speed), (.motorTemp, t.intake.inverter.temp)] s.regime.mode
      | .engine => t.watch = after [(.coolantTemp, t.intake.engine.temp)] s.regime.mode ∨
        t.watch = after [(.coolantTemp, t.intake.engine.temp)] t.regime.mode
      | .demand | .clutch | .brake => t.watch = s.watch) ∧
  (∀ (s : State) (cyc : CycleInputs), s.resetApplied = none → s.split.cycle = some cyc →
    ∃ t, exec .splitCycleCompletion s = .next t ∧
      let x := t.split.history.newest
      t.watch = (List.finRange 16).foldl
        (fun w i => w.evaluateOne t.tables [(.demand, x.d), (.unmet, x.u)] cyc.mode x.count s.freeIx i) s.watch) ∧
  (∀ (t : TableStore) (ev : Evaluation) (m : Mode) (count : BitVec 16) (ix : Nat) (w : WatchUnit) (i : Fin 16),
    let u := w.evaluateOne t ev m count ix i
    (∀ e, t.watch[i] = .passing e → e.enable = false ∨ ev.value e.quantity = none → u = w) ∧
    (t.watch[i] = .failing →
      u = w ∨ u = { w with cells := w.cells.set i { w.cells[i] with state := .disabled } })) ∧
  (∀ (t : TableStore) (ev : Evaluation) (m : Mode) (count : BitVec 16) (ix : Nat) (w : WatchUnit) (i : Fin 16)
    (e : WatchEntry) (v : Int), t.watch[i] = .passing e → e.enable = true → e.action = .notify →
    ev.value e.quantity = some v → w.cells[i].state = .idle →
    e.mask.getLsbD (match m with
      | .standby => 0 | .electric => 1 | .crankStarter | .crankClutch => 2 | .syncIdle | .syncMatch => 3
      | .hybridLocking | .hybridShared => 4 | .releaseRampDown | .releaseOpening => 5
      | .limpEngineStart | .limpEngineDrive => 6 | .limpMotor => 7 | .safe => 8) = true →
    (e.comparison = .above ∧ e.threshold ≤ v) ∨ (e.comparison = .below ∧ v ≤ e.threshold) →
    let u := w.evaluateOne t ev m count ix i
    let n : QueuedNotice :=
      ⟨identOf (t.wp.at 52), ⟨i, e.quantity, e.comparison, v, e.threshold, m, count⟩⟩
    u.cells[i] = ⟨.matched, true⟩ ∧ (∀ j : Fin 16, j ≠ i → u.cells[j] = w.cells[j]) ∧
      (w.cells[i].fired = true → u.queue = w.queue ∧ u.overflow = w.overflow) ∧
      (w.cells[i].fired = false → w.queue.length < 8 → u.queue = w.queue ++ [n] ∧ u.overflow = w.overflow) ∧
      (w.cells[i].fired = false → 8 ≤ w.queue.length → u.queue = w.queue ∧ u.overflow = true)) ∧
  (∀ (t : TableStore) (ev : Evaluation) (m : Mode) (count : BitVec 16) (ix : Nat) (w : WatchUnit) (i : Fin 16),
    let u := w.evaluateOne t ev m count ix i
    let notifies : Prop := ∃ e v, t.watch[i] = .passing e ∧ e.enable = true ∧ e.action = .notify ∧
      ev.value e.quantity = some v ∧ w.cells[i] = ⟨.idle, false⟩ ∧
      e.mask.getLsbD (match m with
      | .standby => 0 | .electric => 1 | .crankStarter | .crankClutch => 2 | .syncIdle | .syncMatch => 3
      | .hybridLocking | .hybridShared => 4 | .releaseRampDown | .releaseOpening => 5
      | .limpEngineStart | .limpEngineDrive => 6 | .limpMotor => 7 | .safe => 8) = true ∧
      ((e.comparison = .above ∧ e.threshold ≤ v) ∨ (e.comparison = .below ∧ v ≤ e.threshold))
    ¬notifies → u.queue = w.queue ∧ u.overflow = w.overflow)

/-! ### Forwarding Unit -/

/-- R171, R174: with the lookup entries pairwise apart, a frame takes the action and role of the valid passing entry of
its arrival port and identifier, and one that no entry matches takes the default action of its arrival port, which is
PASS when entry 47 fails its check (R9). -/
def Obligations.LookupTakesTheOneMatch : Prop :=
  ∀ (s : State) (p : Port) (id : Ident), ForwardInv s →
    (∀ (i : Fin 47) (e : FwdEntry), s.tables.forward[i] = .passing e → e.valid = true → e.port = p → e.id = id →
      s.tables.classify p id = (e.action, e.role)) ∧
    ((∀ (i : Fin 47) (e : FwdEntry), s.tables.forward[i] = .passing e → e.valid = true →
        ¬(e.port = p ∧ e.id = id)) →
      (∀ x, s.tables.portDefaults = .passing x → s.tables.classify p id =
        (match (match p with
          | .portU => x.u
          | .portD => x.d) with
        | .pass => (.pass, none)
        | .drop => (.drop, none))) ∧
      (s.tables.portDefaults = .failing → s.tables.classify p id = (.pass, none)))

/-- R169, R174, R175, R176: a frame that no stream takes, since the action it matches is PASS or DROP, whatever role its
entry holds, or since no role is set. One that is passed joins the other port's forward queue at its tail as it was
received, is discarded with the overflow flag set when the queue holds 16 frames, and without it when that port is
BUS_OFF; one that is dropped, or consumed without a role, joins nothing. Nothing else changes but the receive count and
error state of its port. -/
def Obligations.PassedFrameJoinsTheOtherPortsQueue : Prop :=
  ∀ (p : Port) (a : FwdAction) (role : Option Role) (f : Frame) (s : State), s.Classifies p f →
    s.tables.classify p f.id = (a, role) → a = .pass ∨ a = .drop ∨ role = none → ∃ t, exec (.frameReceived p f) s = .next t ∧
      let x := s.ports.port.get p
      let y := t.ports.port.get p
      let q := s.forward.get p.other
      t = { s with
        forward := s.forward.set p.other (t.forward.get p.other)
        ports := { s.ports with port := s.ports.port.set p { x with rxCount := y.rxCount, error := y.error } } } ∧
      y.rxCount = (if 127 < x.rxCount then 120 else x.rxCount - 1) ∧
      (a = .drop ∨ a = .consume ∨ (s.ports.port.get p.other).error = .busOff → t.forward.get p.other = q) ∧
      (a = .pass ∨ a = .consumePass → (s.ports.port.get p.other).error ≠ .busOff → 16 ≤ q.frames.length →
        t.forward.get p.other = { q with overflow := true }) ∧
      (a = .pass ∨ a = .consumePass → (s.ports.port.get p.other).error ≠ .busOff → q.frames.length < 16 →
        t.forward.get p.other = { q with frames := q.frames ++ [f] })

/-! ### Ports -/

/-- R176, R177, R178, R179: what moves a port's counts beside its own attempts. A frame discarded as no classic data
frame lowers the receive count (log entry 13) and a receive error raises it, and the error state follows. A port in
BUS_OFF receives no frame, counts no receive error and begins no attempt, and Port U takes no request then. A run of 11
recessive bits raises the recovery count of a port in BUS_OFF, and the run at which it reaches 128 is the recovery: the
port is ERROR_ACTIVE with every count 0, and Port D removes DOWNLINK_LOSS, by the clear mode of its entry as read
(R134, R135). The row BUS_OFF_RECOVERY is that 128th run given as a row of its own, and before it changes nothing (log
entry 27). Nothing else changes. -/
def Obligations.PortCountsFollowReceptionAndRecovery : Prop :=
  ∀ (p : Port) (s : State), s.resetApplied = none → (s.ports.port.get p).Consistent →
    let x := s.ports.port.get p
    let withPort (y : PortState) : State := { s with ports := { s.ports with port := s.ports.port.set p y } }
    (∀ (k : NonDataKind) (c : Instr) (n : Nat), x.error ≠ .busOff →
      (c = .nonDataFrameDiscard p k ∧ n = (if 127 < x.rxCount then 120 else x.rxCount - 1)) ∨
        (c = .receiveError p ∧ n = min (x.rxCount + 1) 255) →
      exec c s = .next (withPort { x with
        rxCount := n
        error := if x.error = .errorActive then (if 127 < n then .errorPassive else .errorActive)
          else if x.txCount ≤ 127 ∧ n ≤ 127 then .errorActive else .errorPassive })) ∧
    (x.error = .busOff →
      (∀ (f : Frame) (k : NonDataKind) (c : Instr),
        c = .frameReceived p f ∨ c = .nonDataFrameDiscard p k ∨ c = .receiveError p ∨ c = .transmitStart p ∨
          (p = .portU ∧ (commandRequest c).isSome = true) → exec c s = .next s) ∧
      (x.recovery < 127 →
        exec (.elevenRecessiveBitsSeen p) s = .next (withPort { x with recovery := x.recovery + 1 }) ∧
        exec (.busOffRecovery p) s = .next s) ∧
      (∀ c : Instr, x.recovery = 127 → c = .elevenRecessiveBitsSeen p ∨ c = .busOffRecovery p →
        ∃ t, exec c s = .next t ∧
          t = { withPort ⟨.errorActive, 0, 0, 0, none⟩ with faults := t.faults } ∧
          (∀ i : Fin 12, i ≠ srcDownlinkLoss → t.faults.sources[i] = s.faults.sources[i]) ∧
          (p = .portU → t.faults = s.faults) ∧
          (p = .portD → s.faults.sources[srcDownlinkLoss].state = .active →
            s.faults.sources[srcDownlinkLoss].cond = true → t.faults.sources[srcDownlinkLoss] =
              ⟨match (s.tables.readFaultEntry srcDownlinkLoss).clearMode with
                | .auto => .clear
                | .manual => .awaitAck, false, false⟩)))

/-- R157, R161, R162, R163, R166, R200, R202: a transmit start takes the candidate of lowest identifier, the first of
those that share it in the fixed order; a slot chosen goes to SENDING, and nothing else changes; with no candidate
nothing changes. Every candidate but a forwarded frame carries eight bytes with the counter of its kind and the check
byte over the rest. The candidates are the slots in WAITING and the heads of the queues of the port, in the fixed
order. The frame of a content has its identifier, and its data bits are the fields of its kind at their places, two's
complement where signed, every other bit 0, with the counter in bits 0 to 3 of byte 6 and the check byte last. -/
def Obligations.TransmitStartTakesTheLowestCandidate : Prop :=
  (∀ (p : Port) (s : State), s.resetApplied = none → (s.ports.port.get p).error ≠ .busOff →
    (s.ports.port.get p).attempt = none →
    (s.candidates p = [] → exec (.transmitStart p) s = .next s) ∧
    (∀ (pre : List Attempt) (a : Attempt) (post : List Attempt), s.candidates p = pre ++ a :: post →
      (∀ b ∈ pre, a.frame.id.toNat < b.frame.id.toNat) → (∀ b ∈ post, a.frame.id.toNat ≤ b.frame.id.toNat) →
      ∃ t, exec (.transmitStart p) s = .next t ∧
        t = { s with ports := { s.ports with
          slots := t.ports.slots
          port := s.ports.port.set p { s.ports.port.get p with attempt := some a } } } ∧
        (∀ n : SlotName, a.holder ≠ .slot n → t.ports.slots.get n = s.ports.slots.get n) ∧
        (∀ n : SlotName, a.holder = .slot n →
          ∃ c, s.ports.slots.get n = .waiting c ∧ t.ports.slots.get n = .sending c)) ∧
    (∀ a ∈ s.candidates p, ∀ k : FrameKind, a.holder.kind = some k →
      a.frame.data.length = 8 ∧ counterOf a.frame.data = s.ports.counters.get k ∧
        a.frame.data.getD 7 0 = checkByte a.frame.id (a.frame.data.take 7))) ∧
  (∀ (p : Port) (s : State),
    let slot (n : SlotName) : List Attempt := match s.ports.slots.get n with
      | .waiting c => [⟨.slot n, c.toFrame (s.ports.counters.get (.slot n))⟩]
      | .empty | .sending _ | .sendingNext _ _ => []
    let forward : List Attempt := match (s.forward.get p).frames with
      | [] => []
      | f :: _ => [⟨.forward, f⟩]
    let notice : List Attempt := match s.watch.queue with
      | [] => []
      | n :: _ => [⟨.notice, Content.toFrame ⟨n.id, .notice n.notice⟩ s.ports.counters.notice⟩]
    s.candidates p = match p with
      | .portD => slot .engineCmd ++ slot .inverterCmd ++ slot .clutchCmd ++ forward
      | .portU => slot .replySupervisor ++ slot .replyService ++ slot .brakeShare ++ slot .splitReport ++ notice ++
          forward) ∧
  (∀ (c : Content) (counter : Nibble),
    let f := c.toFrame counter
    let bitAt (k : Nat) : Bool := (f.data.getD (k / 8) 0).getLsbD (k % 8)
    let flag (b : Bool) : Int := if b then 1 else 0
    let modeCode (m : Mode) : Int := match m with
      | .standby => 0 | .electric => 1 | .crankStarter => 2 | .crankClutch => 3 | .syncIdle => 4 | .syncMatch => 5
      | .hybridLocking => 6 | .hybridShared => 7 | .releaseRampDown => 8 | .releaseOpening => 9
      | .limpEngineStart => 10 | .limpEngineDrive => 11 | .limpMotor => 12 | .safe => 13
    let fields : List (Nat × Nat × Int) := match c.payload with
      | .engineCmd mode torque speed =>
        [(0, 3, match mode with | .off => 0 | .starter => 1 | .idle => 2 | .speed => 3 | .torque => 4), (3, 12, torque),
          (15, 13, speed)]
      | .inverterCmd mode torque => [(0, 1, match mode with | .standby => 0 | .torque => 1), (1, 12, torque)]
      | .clutchCmd target capacity =>
        [(0, 2, match target with | .isOpen => 0 | .slip => 1 | .lock => 2), (2, 10, capacity)]
      | .brakeShare friction regen => [(0, 10, friction), (10, 10, regen)]
      | .splitReport d engine motor u b mode =>
        [(0, 11, d), (11, 10, engine), (21, 10, motor), (31, 11, u), (42, 1, flag b.engHi), (43, 1, flag b.engLo),
          (44, 1, flag b.motHi), (45, 1, flag b.motLo), (46, 1, flag b.engSlew), (52, 4, modeCode mode)]
      | .notice n =>
        [(0, 4, (n.entry.val : Int)),
          (4, 3, match n.quantity with
            | .soc => 0 | .shaftSpeed => 1 | .battTemp => 2 | .motorTemp => 3 | .coolantTemp => 4 | .demand => 5
            | .unmet => 6),
          (7, 1, match n.comparison with | .above => 0 | .below => 1), (8, 14, n.value), (22, 14, n.threshold),
          (36, 12, (n.count.toNat : Int)), (52, 4, modeCode n.mode)]
      | .reply tag table field index value status =>
        [(0, 8, (tag.toNat : Int)), (8, 4, (table.toNat : Int)), (12, 4, (field.toNat : Int)),
          (16, 8, (index.toNat : Int)), (24, 24, (value.toNat : Int)),
          (52, 4, match status with
            | .ok => 0 | .busy => 1 | .held => 2 | .holdPending => 3 | .checkFailed => 4 | .wrongRegime => 5
            | .wrongBank => 6 | .badIndex => 7 | .badField => 8 | .badValue => 9 | .conditionPresent => 10
            | .badRequest => 11)]
    f.id = c.id ∧ f.data.length = 8 ∧
      (∀ k, k < 48 ∨ (52 ≤ k ∧ k < 56) → (bitAt k = true ↔ ∃ x ∈ fields, x.1 ≤ k ∧ k < x.1 + x.2.1 ∧
        (BitVec.ofInt x.2.1 x.2.2).getLsbD (k - x.1) = true)) ∧
      (∀ k, k < 4 → bitAt (48 + k) = counter.getLsbD k) ∧
      (f.data.getD 7 0).toNat = 255 - (((f.data.take 7).map BitVec.toNat).sum + f.id.toNat % 256) % 256)

/-- R163, R164, R158, R161, R176, R177: a completion of transmission ends the attempt: its slot becomes EMPTY, or
WAITING with the next content; a queue head leaves its queue; the counter of the kind goes up by one, wrapping from 15
to 0; the transmit error count goes down by one, not below 0, and the error state follows the table of R177; and no
other slot, counter, queue or port changes. -/
def Obligations.CompletionEndsTheAttempt : Prop :=
  ∀ (p : Port) (s : State) (a : Attempt), s.resetApplied = none → (s.ports.port.get p).attempt = some a →
    ∃ t, exec (.transmissionCompletion p) s = .next t ∧
      t = { s with
        ports := t.ports
        watch := if a.holder = .notice then { s.watch with queue := s.watch.queue.tail } else s.watch
        forward := if a.holder = .forward then
            s.forward.set p { s.forward.get p with frames := (s.forward.get p).frames.tail }
          else s.forward } ∧
      (let x := s.ports.port.get p
      let n := x.txCount - 1
      t.ports.port = s.ports.port.set p { x with
        attempt := none, txCount := n
        error := match x.error with
          | .errorActive => if 255 < n then .busOff
            else if 127 < n ∨ 127 < x.rxCount then .errorPassive else .errorActive
          | .errorPassive => if 255 < n then .busOff
            else if n ≤ 127 ∧ x.rxCount ≤ 127 then .errorActive else .errorPassive
          | .busOff => .busOff }) ∧
      (∀ n : SlotName, t.ports.slots.get n =
        if a.holder = .slot n then
          (match s.ports.slots.get n with
          | .sending _ | .empty => .empty
          | .sendingNext _ d | .waiting d => .waiting d)
        else s.ports.slots.get n) ∧
      (∀ k : FrameKind, t.ports.counters.get k =
        if a.holder.kind = some k then s.ports.counters.get k + 1 else s.ports.counters.get k)

/-- R158, R164, R176, R177, R178, R179: an attempt that fails keeps its counter and its queue and leaves its slot
WAITING with the newest content. A lost arbitration changes no error count. An error raises the transmit count by 8, to
256 at most (log entry 16), but not for a missing acknowledgement in ERROR_PASSIVE, and the error state follows; above
255 the port enters BUS_OFF, which empties its forward queue, sets the recovery count to 0 and for Port D raises
DOWNLINK_LOSS. -/
def Obligations.FailedAttemptsFollowTheErrorTable : Prop :=
  ∀ (p : Port) (k : TxErrorKind) (c : Instr) (s : State) (a : Attempt), s.resetApplied = none →
    (s.ports.port.get p).attempt = some a → (s.ports.port.get p).Consistent →
    c = .arbitrationLost p ∨ c = .transmitError p k →
    ∃ t, exec c s = .next t ∧
      t = { s with ports := { t.ports with counters := s.ports.counters }, forward := t.forward, faults := t.faults } ∧
      (∀ n : SlotName, t.ports.slots.get n =
        if a.holder = .slot n then
          (match s.ports.slots.get n with
          | .sending d | .sendingNext _ d | .waiting d => .waiting d
          | .empty => .empty)
        else s.ports.slots.get n) ∧
      let x := s.ports.port.get p
      let n := if x.error = .errorPassive ∧ k = .missingAck then x.txCount else min (x.txCount + 8) 256
      let stays : Prop := t.forward = s.forward ∧ t.faults = s.faults
      (c = .arbitrationLost p → stays ∧ t.ports.port = s.ports.port.set p { x with attempt := none }) ∧
      (c = .transmitError p k → n ≤ 255 → stays ∧
        t.ports.port = s.ports.port.set p { x with
          attempt := none, txCount := n
          error := if 127 < n ∨ 127 < x.rxCount then .errorPassive else .errorActive }) ∧
      (c = .transmitError p k → 255 < n →
        t.ports.port = s.ports.port.set p { x with attempt := none, txCount := n, error := .busOff, recovery := 0 } ∧
        t.forward = s.forward.set p { s.forward.get p with frames := [] } ∧
        (∀ i : Fin 12, i ≠ srcDownlinkLoss ∨ p = .portU → t.faults.sources[i] = s.faults.sources[i]) ∧
        (p = .portD → t.faults.sources[srcDownlinkLoss].state = .active ∧
          t.faults.sources[srcDownlinkLoss].cond = true))

/-- R66, R69, R150, R158, R160, R163, R166, R171, R175 to R178, R191: every step keeps the counts and error state of
each port fitting each other, the queues in their bounds, a slot on the bus exactly while it holds its port's attempt,
the reply slots out of SENDING_NEXT, the valid passing lookup entries pairwise apart, no entry held twice and each edit
window running exactly while its record names an entry, and the bands within 0..3. -/
def Obligations.StepKeepsPortsTablesAndHolds : Prop :=
  (∀ s t : State, PortsInv s → step s = .next t → PortsInv t) ∧
  (∀ s t : State, ForwardInv s → step s = .next t → ForwardInv t) ∧
  (∀ s t : State, HoldsInv s → step s = .next t → HoldsInv t) ∧
  (∀ s t : State, BandInv s → step s = .next t → BandInv t)

/-! ### Management Unit -/

/-- R2, R20, R160, R182, R183, R184 order 1, R187, section 1.10: a request that finds its requester's reply slot not
EMPTY sets the overrun flag and does nothing more; one that finds it EMPTY gets exactly one reply, which echoes its
tag, table, index and field number; a request answered with any status but OK changes nothing and its value is 0 but
for CONDITION_PRESENT; and a frame that cannot be taken as a request is answered BAD_REQUEST. No request touches the
streams, the limits or the split state; and in every state no request changes the active bank, the selector, the
working parameters or the active bank's verified flag, or anything of the Regime Controller but the crank attempt
count. -/
def Obligations.RequestsAreAnsweredOnceOrOverrun : Prop :=
  ∀ (c : Instr) (q : Requester) (r : Request) (s : State), commandRequest c = some (q, r) →
    (s.resetApplied = none → s.ports.port.u.error ≠ .busOff →
      (s.ports.slots.get (replySlot q) ≠ .empty →
        exec c s = .next { s with mgmt := s.mgmt.set q { s.mgmt.get q with overrun := true } }) ∧
      (s.ports.slots.get (replySlot q) = .empty → ∃ t v st, exec c s = .next t ∧
        t = { s with
          tables := t.tables, regime := t.regime, faults := t.faults, watch := t.watch, forward := t.forward
          mgmt := t.mgmt, ports := (s.withReply q r.tag r.table r.field r.index v st).ports } ∧
        (st ≠ .ok → t = s.withReply q r.tag r.table r.field r.index v st ∧ (st ≠ .conditionPresent → v = 0)) ∧
        (∀ bytes, c = .malformedRequest q bytes → malformedBytes bytes = true → st = .badRequest))) ∧
    (∀ t, exec c s = .next t →
      t.tables.bank s.tables.selector = s.tables.bank s.tables.selector ∧ t.tables.selector = s.tables.selector ∧
        t.tables.wp = s.tables.wp ∧
        t.tables.verified s.tables.selector = s.tables.verified s.tables.selector ∧
        t.regime = { s.regime with attempts := t.regime.attempts } ∧
        (t.regime.attempts = s.regime.attempts ∨ t.regime.attempts = 0))

/-- R173, R181, R184, R201, R202: the identifiers of requests and replies are the strap's base 0x6A0, 0x6B0, 0x6C0 or
0x6D0 plus 0 to 3. A frame of a request identifier on Port U whose eight bytes spell a management command (kind, bank,
tag, table, field number, index and value at their bits, the bank read by READ and WRITE and the value by WRITE alone,
bits 5 to 7 of byte 0 and byte 7 anything) is that command's table row, taken after the receive count has moved (log
entries 10 and 25); one of another length or kind, or a READ, READ_HOLD or WRITE of another table, is answered
BAD_REQUEST with what its bytes echo, a missing byte as 0. A MALFORMED_REQUEST row whose bytes are a well-formed
request is that request (log entry 14); a request identifier on Port D and a reply identifier on either port moves the
receive count and nothing else. -/
def Obligations.RequestFramesAreTheManagementCommands : Prop :=
  (∀ strap : BitVec 2,
    let base : Nat := match strap.toNat with
      | 0 => 0x6A0 | 1 => 0x6B0 | 2 => 0x6C0 | _ => 0x6D0
    (requestIdent strap .supervisor).toNat = base ∧ (requestIdent strap .service).toNat = base + 1 ∧
      (replyIdent strap .supervisor).toNat = base + 2 ∧ (replyIdent strap .service).toNat = base + 3) ∧
  (∀ name : TableName, (tableNibble name).toNat = match name with
    | .bank .param => 0 | .bank .speedBp => 1 | .bank .demandBp => 2 | .bank .thresh => 3 | .bank .map0 => 4
    | .bank .map1 => 5 | .bank .map2 => 6 | .bank .map3 => 7 | .live .forward => 8 | .live .watch => 9
    | .live .faultMap => 10) ∧
  (∀ (q : Requester) (s : State), s.resetApplied = none →
    (s.ports.port.u.Consistent → s.ports.port.u.error ≠ .busOff →
      (∀ (c : Instr) (r : Request) (k : ReqKind) (f : Frame), commandRequest c = some (q, r) → r.kind = some k →
        f.id = requestIdent s.strapId q → f.data.length = 8 →
        let byte (n : Nat) : Byte := f.data.getD n 0
        ((byte 0).extractLsb' 0 4).toNat = (match k with
          | .read => 0 | .readHold => 1 | .write => 2 | .release => 3 | .copy => 4 | .commit => 5 | .cancel => 6
          | .ack => 7 | .status => 8) →
        (k = .read ∨ k = .write → ((byte 0).getLsbD 4 = true ↔ r.bank = .shadow)) →
        byte 1 = r.tag → (byte 2).extractLsb' 0 4 = r.table → (byte 2).extractLsb' 4 4 = r.field → byte 3 = r.index →
        (k = .write → (byte 4).toNat + 256 * (byte 5).toNat + 65536 * (byte 6).toNat = r.value.toNat) →
        exec (.frameReceived .portU f) s = exec c (s.countReceived .portU)) ∧
      (∀ (c : Instr) (r : Request) (k : ReqKind), commandRequest c = some (q, r) → r.kind = some k →
        exec (.frameReceived .portU ⟨requestIdent s.strapId q, r.toBytes k⟩) s = exec c (s.countReceived .portU)) ∧
      (∀ f : Frame, f.id = requestIdent s.strapId q → f.data.length ≤ 8 →
        let kind : Nat := ((f.data.getD 0 0).extractLsb' 0 4).toNat
        f.data.length ≠ 8 ∨ 8 < kind ∨ (kind < 3 ∧ 10 < ((f.data.getD 2 0).extractLsb' 0 4).toNat) →
        s.ports.slots.get (replySlot q) = .empty →
        exec (.frameReceived .portU f) s = .next ((s.countReceived .portU).withReply q (f.data.getD 1 0)
          ((f.data.getD 2 0).extractLsb' 0 4) ((f.data.getD 2 0).extractLsb' 4 4) (f.data.getD 3 0) 0 .badRequest)) ∧
      (∀ bytes : List Byte, bytes.length ≤ 8 →
        exec (.frameReceived .portU ⟨requestIdent s.strapId q, bytes⟩) s =
          exec (.malformedRequest q bytes) (s.countReceived .portU))) ∧
    (∀ (p : Port) (f : Frame), (s.ports.port.get p).error ≠ .busOff → f.data.length ≤ 8 →
      f.id = replyIdent s.strapId q ∨ (p = .portD ∧ f.id = requestIdent s.strapId q) →
      exec (.frameReceived p f) s = .next (s.countReceived p)))

/-- R185, R186, R191, R201: the stored fields of an entry of each table as the numbers a request names them by, none
for an entry that fails its check; and what a READ and a READ_HOLD answer. Both answer the named field of the entry
that stands, CHECK_FAILED for an entry that fails its check, BAD_INDEX and BAD_FIELD for what does not exist. A
READ_HOLD answered OK makes or renews its requester's hold with the edit window at 500 ms; it is refused HOLD_PENDING
while its requester holds a different entry and HELD while the other one holds the named entry, and BAD_REQUEST for a
bank table; a refused one leaves every hold as it is. -/
def Obligations.ReadsAnswerTheStoredField : Prop :=
  (∀ (t : TableStore) (b : BankSel) (i : Nat),
    let numbers {α : Type} (e : Checked α) (fields : α → List Int) : Option (List Int) := match e with
      | .passing x => some (fields x)
      | .failing => none
    let code (b : Bool) : Int := if b then 1 else 0
    let portCode (p : Port) : Int := match p with
      | .portU => 0 | .portD => 1
    let actionCode (a : FwdAction) : Int := match a with
      | .pass => 0 | .consume => 1 | .consumePass => 2 | .drop => 3
    let defaultCode (a : DefaultAction) : Int := match a with
      | .pass => 0 | .drop => 3
    let roleCode (r : Option Role) : Int := match r with
      | none => 0 | some .demand => 1 | some .battery => 2 | some .inverter => 3 | some .engine => 4
      | some .clutch => 5 | some .brake => 6
    let quantityCode (x : Quantity) : Int := match x with
      | .soc => 0 | .shaftSpeed => 1 | .battTemp => 2 | .motorTemp => 3 | .coolantTemp => 4 | .demand => 5 | .unmet => 6
    let comparisonCode (x : Comparison) : Int := match x with
      | .above => 0 | .below => 1
    let watchActionCode (a : WatchAction) : Int := match a with
      | .notify => 0 | .derateMotor => 1 | .derateEngine => 2 | .engineHold => 3 | .engineInhibit => 4
    let consequenceCode (x : Consequence) : Int := match x with
      | .none => 0 | .limpEngine => 1 | .limpMotor => 2 | .safe => 3
    let clearCode (x : ClearMode) : Int := match x with
      | .auto => 0 | .manual => 1
    (∀ tbl : BankTable, t.entryNumbers b (.bank tbl) i =
      numbers ((t.bank (match b with
        | .active => t.selector
        | .shadow => t.shadow)).entryAt (tbl.base + i)) fun f => [f.f1, f.f2]) ∧
    (∀ j : Fin 47, j.val = i → t.entryNumbers b (.live .forward) i = numbers t.forward[j] fun e =>
      [code e.valid, portCode e.port, (e.id.toNat : Int), actionCode e.action, roleCode e.role]) ∧
    t.entryNumbers b (.live .forward) 47 = numbers t.portDefaults (fun e => [defaultCode e.u, defaultCode e.d]) ∧
    (∀ j : Fin 16, j.val = i → t.entryNumbers b (.live .watch) i = numbers t.watch[j] fun e =>
      [code e.enable, quantityCode e.quantity, comparisonCode e.comparison, e.threshold, e.hysteresis,
        (e.mask.toNat : Int), watchActionCode e.action, e.actionValue]) ∧
    (∀ j : Fin 12, j.val = i → t.entryNumbers b (.live .faultMap) i = numbers t.faultMap[j] fun e =>
      [code e.forced.engine + 2 * code e.forced.motorDrive + 4 * code e.forced.motorRegen +
        8 * code e.forced.clutchLock, consequenceCode e.consequence, clearCode e.clearMode])) ∧
  (∀ (q : Requester) (tag : Byte) (bank : BankSel) (table : TableName) (l : LiveTable) (index : Byte) (field : Nibble)
    (s : State), s.Takes q →
    let replied (t : State) (name : TableName) (v : Value24) (st : Status) :=
      (Host.Outcome.next (t.withReply q tag (tableNibble name) field index v st) : Host.Outcome State Fault Refusal)
    let held : Option HeldEntry := some ⟨l, index.toNat⟩
    let i := index.toNat
    let size (name : TableName) : Nat := match name with
      | .bank .param => 54 | .bank .speedBp => 12 | .bank .demandBp => 10 | .bank .thresh => 3
      | .bank .map0 | .bank .map1 | .bank .map2 | .bank .map3 => 120
      | .live .forward => 48 | .live .watch => 16 | .live .faultMap => 12
    let stored (name : TableName) : Prop := 1 ≤ field.toNat ∧ field.toNat ≤ match name with
      | .bank .param | .bank .speedBp | .bank .demandBp | .bank .thresh => 1
      | .bank .map0 | .bank .map1 | .bank .map2 | .bank .map3 => 2
      | .live .forward => if i = 47 then 2 else 5
      | .live .watch => 8
      | .live .faultMap => 3
    (size table ≤ i →
      exec (.read q tag bank table index field) s = replied s table 0 .badIndex) ∧
    (i < size table → ¬stored table →
      exec (.read q tag bank table index field) s = replied s table 0 .badField) ∧
    (i < size table → stored table →
      (s.tables.entryNumbers bank table index.toNat = none →
        exec (.read q tag bank table index field) s = replied s table 0 .checkFailed) ∧
      (∀ ns, s.tables.entryNumbers bank table index.toNat = some ns →
        exec (.read q tag bank table index field) s =
          replied s table (BitVec.ofInt 24 (ns.getD (field.toNat - 1) 0)) .ok)) ∧
    (∀ tbl : BankTable, exec (.readHold q tag (.bank tbl) index field) s = replied s (.bank tbl) 0 .badRequest) ∧
    (size (.live l) ≤ i →
      exec (.readHold q tag (.live l) index field) s = replied s (.live l) 0 .badIndex) ∧
    (i < size (.live l) → ¬stored (.live l) →
      exec (.readHold q tag (.live l) index field) s = replied s (.live l) 0 .badField) ∧
    (i < size (.live l) → stored (.live l) →
      ((s.mgmt.get q).hold ≠ none → (s.mgmt.get q).hold ≠ held →
        exec (.readHold q tag (.live l) index field) s = replied s (.live l) 0 .holdPending) ∧
      ((s.mgmt.get q).hold = none ∨ (s.mgmt.get q).hold = held → (s.mgmt.get q.other).hold = held →
        exec (.readHold q tag (.live l) index field) s = replied s (.live l) 0 .held) ∧
      ((s.mgmt.get q).hold = none ∨ (s.mgmt.get q).hold = held → (s.mgmt.get q.other).hold ≠ held →
        (s.tables.entryNumbers bank (.live l) index.toNat = none →
          exec (.readHold q tag (.live l) index field) s = replied s (.live l) 0 .checkFailed) ∧
        (∀ ns, s.tables.entryNumbers bank (.live l) index.toNat = some ns →
          exec (.readHold q tag (.live l) index field) s =
            replied { s with mgmt := s.mgmt.set q { s.mgmt.get q with hold := held, window := .running 500 } }
              (.live l) (BitVec.ofInt 24 (ns.getD (field.toNat - 1) 0)) .ok))))

/-- R184, R185, R187, R189, R190, R191, R192: the refusals of a WRITE and of an entry reset, on every table, in the
order of R184. BAD_INDEX and BAD_FIELD for what does not exist; WRONG_BANK for the active bank; WRONG_REGIME outside
STANDBY and SAFE for the fault map, outside STANDBY for a forwarding entry whose role is set (or that fails its check)
or for its field 5, and outside STANDBY and SAFE for every other write of the service tool; BUSY for a bank table while
a walk, a copy or a swap is in hand; HOLD_PENDING while the requester holds a different live entry, HELD while the
other one holds the named one; and CHECK_FAILED for a field of an entry that fails its check. A refused WRITE changes
nothing. -/
def Obligations.WritesAreRefusedInOrder : Prop :=
  ∀ (q : Requester) (tag : Byte) (bank : BankSel) (name : TableName) (index : Byte) (field : Nibble) (value : Value24)
    (c : Instr) (s : State), s.Takes q →
    c = .write q tag bank name index field value ∨ (field = 0 ∧ c = .entryReset q tag bank name index value) →
    let i := index.toNat
    let refused (st : Status) : Prop := exec c s = .next (s.withReply q tag (tableNibble name) field index 0 st)
    let size : Nat := match name with
      | .bank .param => 54 | .bank .speedBp => 12 | .bank .demandBp => 10 | .bank .thresh => 3
      | .bank .map0 | .bank .map1 | .bank .map2 | .bank .map3 => 120
      | .live .forward => 48 | .live .watch => 16 | .live .faultMap => 12
    let fields : Nat := match name with
      | .bank .param | .bank .speedBp | .bank .demandBp | .bank .thresh => 1
      | .bank .map0 | .bank .map1 | .bank .map2 | .bank .map3 => 2
      | .live .forward => if i = 47 then 2 else 5
      | .live .watch => 8
      | .live .faultMap => 3
    let inBank : Prop := ∃ tbl, name = .bank tbl
    let parked : Prop := s.regime.mode = .standby ∨ s.regime.mode = .safe
    let roleSet : Prop := i < 47 ∧ ∀ e, s.tables.forward[i]? = some (.passing e) → e.role ≠ none
    let forbidden : Prop := match name with
      | .live .faultMap => ¬parked
      | .live .forward => if i < 47 ∧ field = 5 then s.regime.mode ≠ .standby
        else (roleSet ∧ s.regime.mode ≠ .standby) ∨ (¬roleSet ∧ q = .service ∧ ¬parked)
      | .live .watch | .bank _ => q = .service ∧ ¬parked
    let busy : Prop := inBank ∧
      (s.tables.walk.isRunning = true ∨ s.tables.copy ≠ none ∨ s.tables.swapPending = true)
    let held : Option HeldEntry := match name with
      | .live l => some ⟨l, i⟩
      | .bank _ => none
    let failing : Prop := match name with
      | .bank tbl => (s.tables.bank s.tables.shadow).entryAt (tbl.base + i) = .failing
      | .live .forward => if i = 47 then s.tables.portDefaults = .failing else s.tables.forward[i]? = some .failing
      | .live .watch => s.tables.watch[i]? = some .failing
      | .live .faultMap => s.tables.faultMap[i]? = some .failing
    (size ≤ i → refused .badIndex) ∧
    (i < size → field ≠ 0 → fields < field.toNat → refused .badField) ∧
    (i < size → field.toNat ≤ fields →
      (inBank → bank = .active → refused .wrongBank) ∧
      ((inBank → bank = .shadow) →
        (forbidden → refused .wrongRegime) ∧
        (¬forbidden → busy → refused .busy) ∧
        (¬forbidden → ¬busy →
          (¬inBank → (s.mgmt.get q).hold ≠ none → (s.mgmt.get q).hold ≠ held → refused .holdPending) ∧
          (inBank ∨ (s.mgmt.get q).hold = none ∨ (s.mgmt.get q).hold = held →
            (¬inBank → (s.mgmt.get q.other).hold = held → refused .held) ∧
            (inBank ∨ (s.mgmt.get q.other).hold ≠ held → field ≠ 0 → failing → refused .checkFailed)))))

/-- R3 to R6, R8, R10, R187, R188, R189, R190: an applied WRITE and an applied entry reset of a bank table. In the
shadow one field of a passing entry, or the whole entry, is replaced with a fresh check code, the verified flag of the
shadow is cleared and no other entry changes, whatever is held; a value out of its range is refused with BAD_VALUE and
changes nothing. -/
def Obligations.BankWritesReplaceOneEntry : Prop :=
  ∀ (q : Requester) (tag : Byte) (index : Byte) (field : Nibble) (value : Value24) (s : State), s.Takes q →
    (q = .service → s.regime.mode = .standby ∨ s.regime.mode = .safe) →
    ∀ (tbl : BankTable), s.tables.walk.isRunning = false → s.tables.copy = none → s.tables.swapPending = false →
      index.toNat < tbl.size →
      let v : Int := if tbl = .param ∧ (index = 3 ∨ index = 5) then value.toInt else (value.toNat : Int)
      let r : Int × Int := match tbl with
        | .param => ((paramRows.getD index.toNat ⟨0, 0, 0⟩).lo, (paramRows.getD index.toNat ⟨0, 0, 0⟩).hi)
        | .speedBp => (0, 7000)
        | .demandBp => (0, 600)
        | .thresh => (1, 999)
        | .map0 | .map1 | .map2 | .map3 => if field = 1 then (0, 1000) else (0, 150)
      let applied (t : State) (e : BankFields) : Prop :=
        t = { s with
          ports := t.ports
          tables := { s.tables with
            bankA := t.tables.bankA, bankB := t.tables.bankB
            verifiedA := t.tables.verifiedA, verifiedB := t.tables.verifiedB } } ∧
        t.tables.bank s.tables.selector = s.tables.bank s.tables.selector ∧
        t.tables.verified s.tables.selector = s.tables.verified s.tables.selector ∧
        t.tables.verified s.tables.shadow = false ∧
        (∀ p, p < 559 → (t.tables.bank s.tables.shadow).entryAt p =
          if p = tbl.base + index.toNat then .passing e else (s.tables.bank s.tables.shadow).entryAt p)
      (∀ f, field ≠ 0 → field.toNat ≤ tbl.fields →
        (s.tables.bank s.tables.shadow).entryAt (tbl.base + index.toNat) = .passing f →
        (r.1 ≤ v → v ≤ r.2 → ∃ t, exec (.write q tag .shadow (.bank tbl) index field value) s = .next t ∧
          applied t (if field = 1 then { f with f1 := v } else { f with f2 := v }) ∧
          t.ports = (s.withReply q tag (tableNibble (.bank tbl)) field index value .ok).ports) ∧
        (v < r.1 ∨ r.2 < v → exec (.write q tag .shadow (.bank tbl) index field value) s =
          .next (s.withReply q tag (tableNibble (.bank tbl)) field index 0 .badValue))) ∧
      (∃ t, exec (.entryReset q tag .shadow (.bank tbl) index value) s = .next t ∧ applied t ⟨0, 0⟩ ∧
        t.ports = (s.withReply q tag (tableNibble (.bank tbl)) 0 index 0 .ok).ports)

/-- R8, R9, R134, R139, R143, R145, R152, R169 to R171, R187, R188, R190, R192: an applied WRITE and an applied entry
reset of every live table, for an entry that the other requester does not hold, by a requester that holds it or holds
nothing, in a regime R190 allows; its window restarts at 500 ms when it holds the entry. FORWARD: each field by its
codes, refused with BAD_VALUE for a value without a meaning and where the entry would clash with another valid passing
entry on port and identifier or on role; the port defaults; the cleared entries. WATCH: each of the eight fields by its
codes and ranges, the threshold within the range of the quantity as the entry would stand, the state then WAITING when
the entry is enabled and DISABLED otherwise, the fired flag kept. FAULT_MAP: each field by its codes, the power-on
default at a reset; no fault state and no condition changes. A refused value changes nothing. -/
def Obligations.LiveWritesReplaceOneEntry : Prop :=
  ∀ (q : Requester) (tag : Byte) (bank : BankSel) (index : Byte) (field : Nibble) (value : Value24) (l : LiveTable)
    (s : State), s.Takes q → (s.mgmt.get q.other).hold ≠ some ⟨l, index.toNat⟩ →
    (s.mgmt.get q).hold = none ∨ (s.mgmt.get q).hold = some ⟨l, index.toNat⟩ →
    let done (x : State) : State := if (s.mgmt.get q).hold = none then x
      else { x with mgmt := s.mgmt.set q { s.mgmt.get q with window := .running 500 } }
    let written (x : State) : Prop := exec (.write q tag bank (.live l) index field value) s =
      .next ((done x).withReply q tag (tableNibble (.live l)) field index value .ok)
    let refused : Prop := exec (.write q tag bank (.live l) index field value) s =
      .next (s.withReply q tag (tableNibble (.live l)) field index 0 .badValue)
    let cleared (x : State) : Prop := exec (.entryReset q tag bank (.live l) index value) s =
      .next ((done x).withReply q tag (tableNibble (.live l)) 0 index 0 .ok)
    let parked : Prop := s.regime.mode = .standby ∨ s.regime.mode = .safe
    let v : Nat := value.toNat
    (∀ i : Fin 47, l = .forward → index.toNat = i.val →
      let put (e : FwdEntry) : State :=
        { s with tables := { s.tables with forward := s.tables.forward.set i (.passing e) } }
      (∀ e : FwdEntry, s.tables.forward[i] = .passing e → 1 ≤ field.toNat → field.toNat ≤ 5 →
        s.regime.mode = .standby ∨ (e.role = none ∧ field ≠ 5 ∧ (q = .supervisor ∨ parked)) →
        let changed : Option FwdEntry := match field.toNat, v with
          | 1, 0 => some { e with valid := false } | 1, 1 => some { e with valid := true }
          | 2, 0 => some { e with port := .portU } | 2, 1 => some { e with port := .portD }
          | 3, n => if n ≤ 0x7FF then some { e with id := BitVec.ofNat 11 n } else none
          | 4, 0 => some { e with action := .pass } | 4, 1 => some { e with action := .consume }
          | 4, 2 => some { e with action := .consumePass } | 4, 3 => some { e with action := .drop }
          | 5, 0 => some { e with role := none } | 5, 1 => some { e with role := some .demand }
          | 5, 2 => some { e with role := some .battery } | 5, 3 => some { e with role := some .inverter }
          | 5, 4 => some { e with role := some .engine } | 5, 5 => some { e with role := some .clutch }
          | 5, 6 => some { e with role := some .brake }
          | _, _ => none
        let clashes (x : FwdEntry) : Prop := x.valid = true ∧ ∃ (j : Fin 47) (y : FwdEntry), j ≠ i ∧
          s.tables.forward[j] = .passing y ∧ y.valid = true ∧
          ((x.port = y.port ∧ x.id = y.id) ∨ (x.role ≠ none ∧ x.role = y.role))
        (∀ x, changed = some x → (¬clashes x → written (put x)) ∧ (clashes x → refused)) ∧
          (changed = none → refused)) ∧
      (s.regime.mode = .standby ∨ (∃ e, s.tables.forward[i] = .passing e ∧ e.role = none ∧ (q = .supervisor ∨ parked)) →
        cleared (put ⟨false, .portU, 0, .pass, none⟩))) ∧
    (l = .forward → index.toNat = 47 → q = .supervisor ∨ parked →
      let put (e : PortDefaults) : State := { s with tables := { s.tables with portDefaults := .passing e } }
      (∀ e : PortDefaults, s.tables.portDefaults = .passing e → 1 ≤ field.toNat → field.toNat ≤ 2 →
        let changed : Option PortDefaults := match field.toNat, v with
          | 1, 0 => some { e with u := .pass } | 1, 3 => some { e with u := .drop }
          | 2, 0 => some { e with d := .pass } | 2, 3 => some { e with d := .drop }
          | _, _ => none
        (∀ x, changed = some x → written (put x)) ∧ (changed = none → refused)) ∧
      cleared (put ⟨.pass, .pass⟩)) ∧
    (∀ i : Fin 16, l = .watch → index.toNat = i.val → q = .supervisor ∨ parked →
      let put (e : WatchEntry) : State := { s with
        tables := { s.tables with watch := s.tables.watch.set i (.passing e) }
        watch := { s.watch with
          cells := s.watch.cells.set i ⟨if e.enable then .waiting else .disabled, s.watch.cells[i].fired⟩ } }
      (∀ e : WatchEntry, s.tables.watch[i] = .passing e → 1 ≤ field.toNat → field.toNat ≤ 8 →
        let changed : Option WatchEntry := match field.toNat, v with
          | 1, 0 => some { e with enable := false } | 1, 1 => some { e with enable := true }
          | 2, 0 => some { e with quantity := .soc } | 2, 1 => some { e with quantity := .shaftSpeed }
          | 2, 2 => some { e with quantity := .battTemp } | 2, 3 => some { e with quantity := .motorTemp }
          | 2, 4 => some { e with quantity := .coolantTemp } | 2, 5 => some { e with quantity := .demand }
          | 2, 6 => some { e with quantity := .unmet }
          | 3, 0 => some { e with comparison := .above } | 3, 1 => some { e with comparison := .below }
          | 4, _ => some { e with threshold := value.toInt }
          | 5, n => if n ≤ 500 then some { e with hysteresis := n } else none
          | 6, n => if n ≤ 511 then some { e with mask := BitVec.ofNat 9 n } else none
          | 7, 0 => some { e with action := .notify } | 7, 1 => some { e with action := .derateMotor }
          | 7, 2 => some { e with action := .derateEngine } | 7, 3 => some { e with action := .engineHold }
          | 7, 4 => some { e with action := .engineInhibit }
          | 8, n => if n ≤ 400 then some { e with actionValue := n } else none
          | _, _ => none
        (∀ x, changed = some x →
          let range : Int × Int := match x.quantity with
            | .soc => (0, 1000) | .shaftSpeed => (0, 7000) | .battTemp => (-40, 100) | .motorTemp => (-40, 200)
            | .coolantTemp => (-40, 150) | .demand => (-600, 600) | .unmet => (-600, 800)
          (range.1 ≤ x.threshold → x.threshold ≤ range.2 → written (put x)) ∧
            (x.threshold < range.1 ∨ range.2 < x.threshold → refused)) ∧
          (changed = none → refused)) ∧
      cleared (put ⟨false, .soc, .above, 0, 0, 0, .notify, 0⟩)) ∧
    (∀ i : Fin 12, l = .faultMap → index.toNat = i.val → parked →
      let put (e : Checked FaultEntry) : State :=
        { s with tables := { s.tables with faultMap := s.tables.faultMap.set i e } }
      (∀ e : FaultEntry, s.tables.faultMap[i] = .passing e → 1 ≤ field.toNat → field.toNat ≤ 3 →
        let changed : Option FaultEntry := match field.toNat, v with
          | 1, n => if n ≤ 15 then
              some { e with forced := ⟨n.testBit 0, n.testBit 1, n.testBit 2, n.testBit 3⟩ } else none
          | 2, 0 => some { e with consequence := .none } | 2, 1 => some { e with consequence := .limpEngine }
          | 2, 2 => some { e with consequence := .limpMotor } | 2, 3 => some { e with consequence := .safe }
          | 3, 0 => some { e with clearMode := .auto } | 3, 1 => some { e with clearMode := .manual }
          | _, _ => none
        (∀ x, changed = some x → written (put (.passing x))) ∧ (changed = none → refused)) ∧
      cleared (put State.reset.tables.faultMap[i]))

/-- R11, R15, R21, R189, R190, R193: RELEASE and the expiry of the edit window empty the requester's hold record. COPY,
COMMIT and CANCEL are refused WRONG_REGIME to the service tool outside STANDBY and SAFE and then BUSY by the interlocks;
otherwise COPY clears the shadow's verified flag and runs from entry 0, COMMIT starts the commit walk of the shadow, and
CANCEL clears the swap-pending flag. Nothing else changes. -/
def Obligations.BankOperationsFollowTheInterlocks : Prop :=
  ∀ (q : Requester) (tag : Byte) (echo : Echo) (s : State),
    let emptied : State :=
      { s with mgmt := s.mgmt.set q { s.mgmt.get q with hold := none, window := .stopped } }
    (s.resetApplied = none → (s.mgmt.get q).window.isRunning = true →
      exec (.editWindowExpiry q) s = .next emptied) ∧
    (s.Takes q →
      let replied (t : State) (st : Status) :=
        (Host.Outcome.next (t.withReply q tag echo.table echo.field echo.index 0 st) :
          Host.Outcome State Fault Refusal)
      let wrong : Prop := q = .service ∧ s.regime.mode ≠ .standby ∧ s.regime.mode ≠ .safe
      let inFlight : Prop := s.tables.walk.isRunning = true ∨ s.tables.copy ≠ none
      let busy : Prop := inFlight ∨ s.tables.swapPending = true
      exec (.release q tag echo) s = replied emptied .ok ∧
      (wrong → exec (.copy q tag echo) s = replied s .wrongRegime ∧
        exec (.commit q tag echo) s = replied s .wrongRegime ∧ exec (.cancel q tag echo) s = replied s .wrongRegime) ∧
      (¬wrong → busy → exec (.copy q tag echo) s = replied s .busy ∧ exec (.commit q tag echo) s = replied s .busy) ∧
      (¬wrong → ¬busy →
        exec (.copy q tag echo) s =
          replied { s with tables := (match s.tables.selector with
            | .bankA => { s.tables with copy := some 0, verifiedB := false }
            | .bankB => { s.tables with copy := some 0, verifiedA := false }) } .ok ∧
        exec (.commit q tag echo) s =
          replied { s with tables := { s.tables with
            walk := .running .commit 0 [], walkedBank := s.tables.shadow } } .ok) ∧
      (¬wrong → inFlight → exec (.cancel q tag echo) s = replied s .busy) ∧
      (¬wrong → ¬inFlight →
        exec (.cancel q tag echo) s = replied { s with tables := { s.tables with swapPending := false } } .ok))

/-- R23, R110, R135, R137, R155, R194: the four acknowledgements. FAULT takes a source that is not ACTIVE to CLEAR,
with the attempt count set to 0 for CRANK_FAIL, and is refused CONDITION_PRESENT while it is ACTIVE; WATCH clears one
fired flag; CELL empties the cell-fault record; FLAGS clears the three overflow flags; an index outside its target's
range is refused BAD_INDEX. An ACK frame whose field number is not 1 to 4 names no target, stands in no row of its own
and is refused BAD_FIELD. Nothing else changes. -/
def Obligations.AcknowledgementsClearTheirTargets : Prop :=
  ∀ (q : Requester) (tag : Byte) (table : Nibble) (index : Byte) (s : State), s.Takes q →
    (∀ i : Fin 12, index.toNat = i.val →
      (s.faults.sources[i].state = .active → exec (.ackFault q tag table index) s =
        .next (s.withReply q tag table 1 index 1 .conditionPresent)) ∧
      (s.faults.sources[i].state ≠ .active → exec (.ackFault q tag table index) s =
        .next (State.withReply { s with
          faults := ⟨s.faults.sources.set i { s.faults.sources[i] with state := .clear }⟩
          regime := if i = srcCrankFail then { s.regime with attempts := 0 } else s.regime } q tag table 1 index 0
            .ok))) ∧
    (∀ f : Frame, f.id = requestIdent s.strapId q → f.data.length = 8 →
      (f.data.getD 0 0).extractLsb' 0 4 = 7 →
      let field := (f.data.getD 2 0).extractLsb' 4 4
      field = 0 ∨ 4 < field.toNat → exec (.frameReceived .portU f) s =
        .next ((s.countReceived .portU).withReply q (f.data.getD 1 0) ((f.data.getD 2 0).extractLsb' 0 4) field
          (f.data.getD 3 0) 0 .badField)) ∧
    (12 ≤ index.toNat → exec (.ackFault q tag table index) s =
      .next (s.withReply q tag table 1 index 0 .badIndex)) ∧
    (∀ i : Fin 16, index.toNat = i.val → exec (.ackWatch q tag table index) s =
      .next (State.withReply { s with
        watch := { s.watch with cells := s.watch.cells.set i { s.watch.cells[i] with fired := false } } } q tag table 2
          index 0 .ok)) ∧
    (16 ≤ index.toNat → exec (.ackWatch q tag table index) s =
      .next (s.withReply q tag table 2 index 0 .badIndex)) ∧
    exec (.ackCell q tag table index) s =
      .next (State.withReply { s with
        tables := { s.tables with cellFault := ⟨false, .bankA, 0, 0, 0⟩ } } q tag table 3 index 0 .ok) ∧
    exec (.ackFlags q tag table index) s =
      .next (State.withReply { s with
        watch := { s.watch with overflow := false }
        forward := ⟨{ s.forward.u with overflow := false }, { s.forward.d with overflow := false }⟩ } q tag table 4
          index 0 .ok)

/-- R195, R196: the capture replaces its requester's snapshot by one of the state that stands, answers line 0 of page 0
of it and clears its overrun flag after capturing it; every other line in range is answered from the snapshot as
captured, changes nothing, and is refused BAD_REQUEST while the snapshot is empty; a page or line out of range is
refused. The eight pages have 3, 12, 30, 10, 10, 10, 17 and 4 lines. What each line holds is the statement
StatusLinesFollowTheLayout. -/
def Obligations.StatusReadsTheSnapshot : Prop :=
  ∀ (q : Requester) (tag : Byte) (table : Nibble) (page : Nibble) (line : Byte) (s : State), s.Takes q →
    let lines : Nat := [3, 12, 30, 10, 10, 10, 17, 4].getD page.toNat 0
    exec (.statusCapture q tag table) s =
      .next (State.withReply
        { s with
          mgmt := s.mgmt.set q { s.mgmt.get q with overrun := false, snapshot := some (s.snapshot q) } } q tag table 0 0
        (((s.snapshot q).pages.getD 0 []).getD 0 0) .ok) ∧
    (s.snapshot q).pages.map List.length = [3, 12, 30, 10, 10, 10, 17, 4] ∧
    (8 ≤ page.toNat → exec (.statusRead q tag table page line) s =
      .next (s.withReply q tag table page line 0 .badField)) ∧
    (page.toNat < 8 → lines ≤ line.toNat → exec (.statusRead q tag table page line) s =
      .next (s.withReply q tag table page line 0 .badIndex)) ∧
    (page.toNat < 8 → line.toNat < lines → page ≠ 0 ∨ line ≠ 0 →
      ((s.mgmt.get q).snapshot = none → exec (.statusRead q tag table page line) s =
        .next (s.withReply q tag table page line 0 .badRequest)) ∧
      (∀ x, (s.mgmt.get q).snapshot = some x → exec (.statusRead q tag table page line) s =
        .next (s.withReply q tag table page line ((x.pages.getD page.toNat []).getD line.toNat 0) .ok)))

/-- R37, R134, R141, R196, R197, R199, R201, R202: what every line of a captured snapshot holds, bit by bit. A line is
made of fields that stand at their first bit with their number of bits, two's complement where signed, and every other
bit is 0. Line 0 of page 0 shows the regime standing at the capture (log entry 11); the counter bits of an absent
counter and the table and index bits of an empty failure record are 0 (log entry 26). The fault lines show the entry as
read, the default of R134 where it fails its check (R9). The value lines of a stream hold the fields of R199 over two
lines, the stored values and then the effective ones: as stored in FRESH and HELD and the fallbacks of R37 in NEVER and
LAPSED, the temperatures, the contactor flag and the fault flags as stored. The codes of R201 for the regime and phase,
the walk, the streams, the sources, the clutch, the watches and the ports are spelled out. -/
def Obligations.StatusLinesFollowTheLayout : Prop :=
  ∀ (q : Requester) (s : State),
    let line (page n : Nat) : Value24 := ((s.snapshot q).pages.getD page []).getD n 0
    let holds (x : Value24) (fields : List (Nat × Nat × Int)) : Prop := ∀ k, k < 24 → (x.getLsbD k = true ↔
      ∃ f ∈ fields, f.1 ≤ k ∧ k < f.1 + f.2.1 ∧ (BitVec.ofInt f.2.1 f.2.2).getLsbD (k - f.1) = true)
    let flag (b : Bool) : Int := if b then 1 else 0
    let modeCode (m : Mode) : Int := match m with
      | .standby => 0 | .electric => 1 | .crankStarter => 2 | .crankClutch => 3 | .syncIdle => 4 | .syncMatch => 5
      | .hybridLocking => 6 | .hybridShared => 7 | .releaseRampDown => 8 | .releaseOpening => 9
      | .limpEngineStart => 10 | .limpEngineDrive => 11 | .limpMotor => 12 | .safe => 13
    let bankCode (b : BankName) : Int := match b with
      | .bankA => 0
      | .bankB => 1
    let walkCode : Int := match s.tables.walk with
      | .idle => 0 | .running _ _ _ => 1 | .passed => 2 | .failed _ => 3
    let reasonCode (w : WalkReason) : Int := match w with
      | .check => 1 | .range => 2 | .order => 3 | .cross => 4
    let tableCode (t : BankTable) : Int := match t with
      | .param => 0 | .speedBp => 1 | .demandBp => 2 | .thresh => 3 | .map0 => 4 | .map1 => 5 | .map2 => 6 | .map3 => 7
    let faultCode (x : FaultState) : Int := match x with
      | .clear => 0 | .active => 1 | .awaitAck => 2
    let consequenceCode (x : Consequence) : Int := match x with
      | .none => 0 | .limpEngine => 1 | .limpMotor => 2 | .safe => 3
    let streamCode (x : StreamState) : Int := match x with
      | .never => 0 | .fresh => 1 | .held => 2 | .lapsed => 3
    let discardCode (x : DiscardReason) : Int := match x with
      | .none => 0 | .length => 1 | .check => 2 | .repeated => 3
    let watchCode (x : WatchState) : Int := match x with
      | .disabled => 0 | .waiting => 1 | .idle => 2 | .matched => 3
    let errorCode (x : ErrorState) : Int := match x with
      | .errorActive => 0 | .errorPassive => 1 | .busOff => 2
    holds (line 0 0) [(0, 4, modeCode s.regime.mode), (4, 1, bankCode s.tables.selector), (5, 1, flag s.tables.verifiedA),
      (6, 1, flag s.tables.verifiedB), (7, 1, flag s.tables.swapPending), (8, 2, walkCode),
      (10, 1, flag s.tables.copy.isSome), (11, 1, flag s.tables.cellFault.flag), (12, 1, flag (s.mgmt.get q).overrun),
      (13, 1, flag s.watch.overflow), (14, 1, flag s.forward.u.overflow), (15, 1, flag s.forward.d.overflow)] ∧
    holds (line 0 1) ((12, 4, (s.watch.queue.length : Int)) ::
      (List.finRange 12).map fun i => (i.val, 1, flag (decide (s.faults.sources[i].state ≠ .clear)))) ∧
    holds (line 0 2) ((0, 1, bankCode s.tables.walkedBank) :: match s.tables.walk with
      | .failed f => [(1, 4, tableCode f.table), (5, 8, (f.index : Int)), (13, 3, reasonCode f.reason)]
      | .idle | .running _ _ _ | .passed => []) ∧
    (∀ i : Fin 12, let x := s.faults.sources[i]
      let e := s.tables.readFaultEntry i
      holds (line 1 i) [(0, 2, faultCode x.state), (2, 1, flag x.cond), (3, 1, flag x.timeout),
        (4, 1, flag e.forced.engine), (5, 1, flag e.forced.motorDrive), (6, 1, flag e.forced.motorRegen),
        (7, 1, flag e.forced.clutchLock), (8, 2, consequenceCode e.consequence),
        (10, 1, flag (decide (e.clearMode = .manual))), (11, 1, flag (decide (s.tables.faultMap[i] = .failing)))]) ∧
    (let live (r : Role) : Bool := match (s.intake.streams.get r).state with
      | .fresh | .held => true
      | .never | .lapsed => false
    let word (n : Nat) (fields : List (Nat × Nat × Int)) : Prop := ∀ k, k < 48 →
      ((line 2 (n + k / 24)).getLsbD (k % 24) = true ↔
        ∃ f ∈ fields, f.1 ≤ k ∧ k < f.1 + f.2.1 ∧ (BitVec.ofInt f.2.1 f.2.2).getLsbD (k - f.1) = true)
    let stream (first : Nat) (r : Role) (flags effFlags : List Bool) (stored effective : List (Nat × Nat × Int)) : Prop :=
      let m := s.intake.streams.get r
      holds (line 2 first) ([(0, 2, streamCode m.state), (2, 4, ((m.counter.getD 0).toNat : Int)),
        (6, 1, flag m.counter.isSome), (7, 2, discardCode m.discard), (9, 1, flag m.lapse),
        (10, 1, flag (flags.getD 0 false)), (11, 1, flag (flags.getD 1 false)),
        (14, 1, flag (effFlags.getD 0 false)), (15, 1, flag (effFlags.getD 1 false))]) ∧
      word (first + 1) stored ∧ word (first + 3) effective
    let orElse (r : Role) (v fallback : Int) : Int := if live r then v else fallback
    let d := s.intake.demand
    let b := s.intake.battery
    let v := s.intake.inverter
    let e := s.intake.engine
    let c := s.intake.clutch
    let clutchCode : Int := match c.state with
      | .isOpen => 0 | .slipping => 1 | .locked => 2
    stream 0 .demand [d.ready, d.zone] [live .demand && d.ready, !live .demand || d.zone]
        [(0, 12, d.torque)] [(0, 12, orElse .demand d.torque 0)] ∧
      stream 5 .battery [b.contactorClosed] [b.contactorClosed]
        [(0, 11, b.soc), (11, 12, b.pDis), (23, 12, b.pChg), (35, 8, b.temp + 40)]
        [(0, 11, orElse .battery b.soc 0), (11, 12, orElse .battery b.pDis (s.tables.wp.at 8)),
          (23, 12, orElse .battery b.pChg (s.tables.wp.at 9)), (35, 8, b.temp + 40)] ∧
      stream 10 .inverter [v.fault] [v.fault]
        [(0, 13, v.speed), (13, 10, v.motoring), (23, 10, v.generating), (33, 8, v.temp + 40)]
        [(0, 13, orElse .inverter v.speed 0), (13, 10, orElse .inverter v.motoring 0),
          (23, 10, orElse .inverter v.generating 0), (33, 8, v.temp + 40)] ∧
      stream 15 .engine [e.running, e.fault] [live .engine && e.running, e.fault]
        [(0, 13, e.speed), (13, 10, e.available), (23, 10, -e.drag), (33, 8, e.temp + 40)]
        [(0, 13, orElse .engine e.speed 0), (13, 10, orElse .engine e.available 0),
          (23, 10, orElse .engine (-e.drag) 0), (33, 8, e.temp + 40)] ∧
      stream 20 .clutch [c.fault] [c.fault] [(0, 2, clutchCode)] [(0, 2, orElse .clutch clutchCode 1)] ∧
      stream 25 .brake [] [] [(0, 10, s.intake.brake.regen)] [(0, 10, orElse .brake s.intake.brake.regen 0)]) ∧
    (∀ (page : Nat) (r : SplitRecord), (page, r) ∈ [(3, s.split.history.newest), (4, s.split.history.middle),
        (5, s.split.history.oldest)] →
      holds (line page 0) [(0, 4, modeCode r.mode), (4, 1, flag r.binding.engHi), (5, 1, flag r.binding.engLo),
        (6, 1, flag r.binding.motHi), (7, 1, flag r.binding.motLo), (8, 1, flag r.binding.engSlew),
        (9, 12, r.driverShare)] ∧
      holds (line page 1) [(0, 16, (r.count.toNat : Int)), (16, 1, flag (decide (r.kind = .fillIn))),
        (17, 2, (r.band : Int)), (19, 1, flag r.wanted)] ∧
      holds (line page 2) [(0, 13, r.speed), (13, 10, r.soc)] ∧ holds (line page 3) [(0, 12, r.d), (12, 12, r.u)] ∧
      holds (line page 4) [(0, 10, r.e), (10, 8, r.c)] ∧
      holds (line page 5) [(0, 12, r.engRaw), (12, 12, r.engineShare)] ∧
      holds (line page 6) [(0, 12, r.lanes.engHi), (12, 12, r.lanes.engLo)] ∧
      holds (line page 7) [(0, 12, r.lanes.motHi), (12, 12, r.lanes.motLo)] ∧
      holds (line page 8) [(0, 12, r.engineCmd), (12, 12, r.motorCmd)] ∧
      (let c := s.tables.cellFault
      holds (line page 9) [(0, 1, flag c.flag), (1, 1, bankCode c.bank), (2, 2, (c.band : Int)),
        (4, 4, (c.speedIndex : Int)), (8, 4, (c.demandIndex : Int))])) ∧
    (∀ i : Fin 16, holds (line 6 i) [(0, 2, watchCode s.watch.cells[i].state), (2, 1, flag s.watch.cells[i].fired)]) ∧
    holds (line 6 16) ((List.finRange 16).map fun i => (i.val, 1, flag s.watch.cells[i].fired)) ∧
    (∀ p : Port, let x := s.ports.port.get p
      let f := s.forward.get p
      let n : Nat := match p with
        | .portU => 0
        | .portD => 1
      holds (line 7 n) [(0, 2, errorCode x.error), (2, 9, (x.txCount : Int)), (11, 8, (x.rxCount : Int))] ∧
      holds (line 7 (n + 2)) [(0, 8, (x.recovery : Int)), (8, 5, (f.frames.length : Int)), (13, 1, flag f.overflow)])
end

