-- ==== Sys2Proof/Laws/State.lean ====
section
/-! SUPPORT. One lemma for each field of State under each update of one block, true by computation, so that no later
proof unfolds a record update; and what reading a component after writing it gives. -/

namespace Sys2Proof.Machine

/-! ### setTables -/

@[simp] theorem State.setTables_tables (s : State) (x : TableStore) : (s.setTables x).tables = x := rfl
@[simp] theorem State.setTables_intake (s : State) (x : TableStore) : (s.setTables x).intake = s.intake := rfl
@[simp] theorem State.setTables_limits (s : State) (x : TableStore) : (s.setTables x).limits = s.limits := rfl
@[simp] theorem State.setTables_split (s : State) (x : TableStore) : (s.setTables x).split = s.split := rfl
@[simp] theorem State.setTables_regime (s : State) (x : TableStore) : (s.setTables x).regime = s.regime := rfl
@[simp] theorem State.setTables_faults (s : State) (x : TableStore) : (s.setTables x).faults = s.faults := rfl
@[simp] theorem State.setTables_watch (s : State) (x : TableStore) : (s.setTables x).watch = s.watch := rfl
@[simp] theorem State.setTables_ports (s : State) (x : TableStore) : (s.setTables x).ports = s.ports := rfl
@[simp] theorem State.setTables_forward (s : State) (x : TableStore) : (s.setTables x).forward = s.forward := rfl
@[simp] theorem State.setTables_mgmt (s : State) (x : TableStore) : (s.setTables x).mgmt = s.mgmt := rfl
@[simp] theorem State.setTables_strapId (s : State) (x : TableStore) : (s.setTables x).strapId = s.strapId := rfl
@[simp] theorem State.setTables_strapRate (s : State) (x : TableStore) : (s.setTables x).strapRate = s.strapRate := rfl
@[simp] theorem State.setTables_resetApplied (s : State) (x : TableStore) : (s.setTables x).resetApplied = s.resetApplied := rfl
@[simp] theorem State.setTables_freeIx (s : State) (x : TableStore) : (s.setTables x).freeIx = s.freeIx := rfl
@[simp] theorem State.setTables_pending (s : State) (x : TableStore) : (s.setTables x).pending = s.pending := rfl

/-! ### setIntake -/

@[simp] theorem State.setIntake_tables (s : State) (x : Intake) : (s.setIntake x).tables = s.tables := rfl
@[simp] theorem State.setIntake_intake (s : State) (x : Intake) : (s.setIntake x).intake = x := rfl
@[simp] theorem State.setIntake_limits (s : State) (x : Intake) : (s.setIntake x).limits = s.limits := rfl
@[simp] theorem State.setIntake_split (s : State) (x : Intake) : (s.setIntake x).split = s.split := rfl
@[simp] theorem State.setIntake_regime (s : State) (x : Intake) : (s.setIntake x).regime = s.regime := rfl
@[simp] theorem State.setIntake_faults (s : State) (x : Intake) : (s.setIntake x).faults = s.faults := rfl
@[simp] theorem State.setIntake_watch (s : State) (x : Intake) : (s.setIntake x).watch = s.watch := rfl
@[simp] theorem State.setIntake_ports (s : State) (x : Intake) : (s.setIntake x).ports = s.ports := rfl
@[simp] theorem State.setIntake_forward (s : State) (x : Intake) : (s.setIntake x).forward = s.forward := rfl
@[simp] theorem State.setIntake_mgmt (s : State) (x : Intake) : (s.setIntake x).mgmt = s.mgmt := rfl
@[simp] theorem State.setIntake_strapId (s : State) (x : Intake) : (s.setIntake x).strapId = s.strapId := rfl
@[simp] theorem State.setIntake_strapRate (s : State) (x : Intake) : (s.setIntake x).strapRate = s.strapRate := rfl
@[simp] theorem State.setIntake_resetApplied (s : State) (x : Intake) : (s.setIntake x).resetApplied = s.resetApplied := rfl
@[simp] theorem State.setIntake_freeIx (s : State) (x : Intake) : (s.setIntake x).freeIx = s.freeIx := rfl
@[simp] theorem State.setIntake_pending (s : State) (x : Intake) : (s.setIntake x).pending = s.pending := rfl

/-! ### setLimits -/

@[simp] theorem State.setLimits_tables (s : State) (x : Limits) : (s.setLimits x).tables = s.tables := rfl
@[simp] theorem State.setLimits_intake (s : State) (x : Limits) : (s.setLimits x).intake = s.intake := rfl
@[simp] theorem State.setLimits_limits (s : State) (x : Limits) : (s.setLimits x).limits = x := rfl
@[simp] theorem State.setLimits_split (s : State) (x : Limits) : (s.setLimits x).split = s.split := rfl
@[simp] theorem State.setLimits_regime (s : State) (x : Limits) : (s.setLimits x).regime = s.regime := rfl
@[simp] theorem State.setLimits_faults (s : State) (x : Limits) : (s.setLimits x).faults = s.faults := rfl
@[simp] theorem State.setLimits_watch (s : State) (x : Limits) : (s.setLimits x).watch = s.watch := rfl
@[simp] theorem State.setLimits_ports (s : State) (x : Limits) : (s.setLimits x).ports = s.ports := rfl
@[simp] theorem State.setLimits_forward (s : State) (x : Limits) : (s.setLimits x).forward = s.forward := rfl
@[simp] theorem State.setLimits_mgmt (s : State) (x : Limits) : (s.setLimits x).mgmt = s.mgmt := rfl
@[simp] theorem State.setLimits_strapId (s : State) (x : Limits) : (s.setLimits x).strapId = s.strapId := rfl
@[simp] theorem State.setLimits_strapRate (s : State) (x : Limits) : (s.setLimits x).strapRate = s.strapRate := rfl
@[simp] theorem State.setLimits_resetApplied (s : State) (x : Limits) : (s.setLimits x).resetApplied = s.resetApplied := rfl
@[simp] theorem State.setLimits_freeIx (s : State) (x : Limits) : (s.setLimits x).freeIx = s.freeIx := rfl
@[simp] theorem State.setLimits_pending (s : State) (x : Limits) : (s.setLimits x).pending = s.pending := rfl

/-! ### setSplit -/

@[simp] theorem State.setSplit_tables (s : State) (x : SplitState) : (s.setSplit x).tables = s.tables := rfl
@[simp] theorem State.setSplit_intake (s : State) (x : SplitState) : (s.setSplit x).intake = s.intake := rfl
@[simp] theorem State.setSplit_limits (s : State) (x : SplitState) : (s.setSplit x).limits = s.limits := rfl
@[simp] theorem State.setSplit_split (s : State) (x : SplitState) : (s.setSplit x).split = x := rfl
@[simp] theorem State.setSplit_regime (s : State) (x : SplitState) : (s.setSplit x).regime = s.regime := rfl
@[simp] theorem State.setSplit_faults (s : State) (x : SplitState) : (s.setSplit x).faults = s.faults := rfl
@[simp] theorem State.setSplit_watch (s : State) (x : SplitState) : (s.setSplit x).watch = s.watch := rfl
@[simp] theorem State.setSplit_ports (s : State) (x : SplitState) : (s.setSplit x).ports = s.ports := rfl
@[simp] theorem State.setSplit_forward (s : State) (x : SplitState) : (s.setSplit x).forward = s.forward := rfl
@[simp] theorem State.setSplit_mgmt (s : State) (x : SplitState) : (s.setSplit x).mgmt = s.mgmt := rfl
@[simp] theorem State.setSplit_strapId (s : State) (x : SplitState) : (s.setSplit x).strapId = s.strapId := rfl
@[simp] theorem State.setSplit_strapRate (s : State) (x : SplitState) : (s.setSplit x).strapRate = s.strapRate := rfl
@[simp] theorem State.setSplit_resetApplied (s : State) (x : SplitState) : (s.setSplit x).resetApplied = s.resetApplied := rfl
@[simp] theorem State.setSplit_freeIx (s : State) (x : SplitState) : (s.setSplit x).freeIx = s.freeIx := rfl
@[simp] theorem State.setSplit_pending (s : State) (x : SplitState) : (s.setSplit x).pending = s.pending := rfl

/-! ### setRegime -/

@[simp] theorem State.setRegime_tables (s : State) (x : RegimeState) : (s.setRegime x).tables = s.tables := rfl
@[simp] theorem State.setRegime_intake (s : State) (x : RegimeState) : (s.setRegime x).intake = s.intake := rfl
@[simp] theorem State.setRegime_limits (s : State) (x : RegimeState) : (s.setRegime x).limits = s.limits := rfl
@[simp] theorem State.setRegime_split (s : State) (x : RegimeState) : (s.setRegime x).split = s.split := rfl
@[simp] theorem State.setRegime_regime (s : State) (x : RegimeState) : (s.setRegime x).regime = x := rfl
@[simp] theorem State.setRegime_faults (s : State) (x : RegimeState) : (s.setRegime x).faults = s.faults := rfl
@[simp] theorem State.setRegime_watch (s : State) (x : RegimeState) : (s.setRegime x).watch = s.watch := rfl
@[simp] theorem State.setRegime_ports (s : State) (x : RegimeState) : (s.setRegime x).ports = s.ports := rfl
@[simp] theorem State.setRegime_forward (s : State) (x : RegimeState) : (s.setRegime x).forward = s.forward := rfl
@[simp] theorem State.setRegime_mgmt (s : State) (x : RegimeState) : (s.setRegime x).mgmt = s.mgmt := rfl
@[simp] theorem State.setRegime_strapId (s : State) (x : RegimeState) : (s.setRegime x).strapId = s.strapId := rfl
@[simp] theorem State.setRegime_strapRate (s : State) (x : RegimeState) : (s.setRegime x).strapRate = s.strapRate := rfl
@[simp] theorem State.setRegime_resetApplied (s : State) (x : RegimeState) : (s.setRegime x).resetApplied = s.resetApplied := rfl
@[simp] theorem State.setRegime_freeIx (s : State) (x : RegimeState) : (s.setRegime x).freeIx = s.freeIx := rfl
@[simp] theorem State.setRegime_pending (s : State) (x : RegimeState) : (s.setRegime x).pending = s.pending := rfl

/-! ### setFaults -/

@[simp] theorem State.setFaults_tables (s : State) (x : FaultUnit) : (s.setFaults x).tables = s.tables := rfl
@[simp] theorem State.setFaults_intake (s : State) (x : FaultUnit) : (s.setFaults x).intake = s.intake := rfl
@[simp] theorem State.setFaults_limits (s : State) (x : FaultUnit) : (s.setFaults x).limits = s.limits := rfl
@[simp] theorem State.setFaults_split (s : State) (x : FaultUnit) : (s.setFaults x).split = s.split := rfl
@[simp] theorem State.setFaults_regime (s : State) (x : FaultUnit) : (s.setFaults x).regime = s.regime := rfl
@[simp] theorem State.setFaults_faults (s : State) (x : FaultUnit) : (s.setFaults x).faults = x := rfl
@[simp] theorem State.setFaults_watch (s : State) (x : FaultUnit) : (s.setFaults x).watch = s.watch := rfl
@[simp] theorem State.setFaults_ports (s : State) (x : FaultUnit) : (s.setFaults x).ports = s.ports := rfl
@[simp] theorem State.setFaults_forward (s : State) (x : FaultUnit) : (s.setFaults x).forward = s.forward := rfl
@[simp] theorem State.setFaults_mgmt (s : State) (x : FaultUnit) : (s.setFaults x).mgmt = s.mgmt := rfl
@[simp] theorem State.setFaults_strapId (s : State) (x : FaultUnit) : (s.setFaults x).strapId = s.strapId := rfl
@[simp] theorem State.setFaults_strapRate (s : State) (x : FaultUnit) : (s.setFaults x).strapRate = s.strapRate := rfl
@[simp] theorem State.setFaults_resetApplied (s : State) (x : FaultUnit) : (s.setFaults x).resetApplied = s.resetApplied := rfl
@[simp] theorem State.setFaults_freeIx (s : State) (x : FaultUnit) : (s.setFaults x).freeIx = s.freeIx := rfl
@[simp] theorem State.setFaults_pending (s : State) (x : FaultUnit) : (s.setFaults x).pending = s.pending := rfl

/-! ### setWatch -/

@[simp] theorem State.setWatch_tables (s : State) (x : WatchUnit) : (s.setWatch x).tables = s.tables := rfl
@[simp] theorem State.setWatch_intake (s : State) (x : WatchUnit) : (s.setWatch x).intake = s.intake := rfl
@[simp] theorem State.setWatch_limits (s : State) (x : WatchUnit) : (s.setWatch x).limits = s.limits := rfl
@[simp] theorem State.setWatch_split (s : State) (x : WatchUnit) : (s.setWatch x).split = s.split := rfl
@[simp] theorem State.setWatch_regime (s : State) (x : WatchUnit) : (s.setWatch x).regime = s.regime := rfl
@[simp] theorem State.setWatch_faults (s : State) (x : WatchUnit) : (s.setWatch x).faults = s.faults := rfl
@[simp] theorem State.setWatch_watch (s : State) (x : WatchUnit) : (s.setWatch x).watch = x := rfl
@[simp] theorem State.setWatch_ports (s : State) (x : WatchUnit) : (s.setWatch x).ports = s.ports := rfl
@[simp] theorem State.setWatch_forward (s : State) (x : WatchUnit) : (s.setWatch x).forward = s.forward := rfl
@[simp] theorem State.setWatch_mgmt (s : State) (x : WatchUnit) : (s.setWatch x).mgmt = s.mgmt := rfl
@[simp] theorem State.setWatch_strapId (s : State) (x : WatchUnit) : (s.setWatch x).strapId = s.strapId := rfl
@[simp] theorem State.setWatch_strapRate (s : State) (x : WatchUnit) : (s.setWatch x).strapRate = s.strapRate := rfl
@[simp] theorem State.setWatch_resetApplied (s : State) (x : WatchUnit) : (s.setWatch x).resetApplied = s.resetApplied := rfl
@[simp] theorem State.setWatch_freeIx (s : State) (x : WatchUnit) : (s.setWatch x).freeIx = s.freeIx := rfl
@[simp] theorem State.setWatch_pending (s : State) (x : WatchUnit) : (s.setWatch x).pending = s.pending := rfl

/-! ### setPorts -/

@[simp] theorem State.setPorts_tables (s : State) (x : PortsState) : (s.setPorts x).tables = s.tables := rfl
@[simp] theorem State.setPorts_intake (s : State) (x : PortsState) : (s.setPorts x).intake = s.intake := rfl
@[simp] theorem State.setPorts_limits (s : State) (x : PortsState) : (s.setPorts x).limits = s.limits := rfl
@[simp] theorem State.setPorts_split (s : State) (x : PortsState) : (s.setPorts x).split = s.split := rfl
@[simp] theorem State.setPorts_regime (s : State) (x : PortsState) : (s.setPorts x).regime = s.regime := rfl
@[simp] theorem State.setPorts_faults (s : State) (x : PortsState) : (s.setPorts x).faults = s.faults := rfl
@[simp] theorem State.setPorts_watch (s : State) (x : PortsState) : (s.setPorts x).watch = s.watch := rfl
@[simp] theorem State.setPorts_ports (s : State) (x : PortsState) : (s.setPorts x).ports = x := rfl
@[simp] theorem State.setPorts_forward (s : State) (x : PortsState) : (s.setPorts x).forward = s.forward := rfl
@[simp] theorem State.setPorts_mgmt (s : State) (x : PortsState) : (s.setPorts x).mgmt = s.mgmt := rfl
@[simp] theorem State.setPorts_strapId (s : State) (x : PortsState) : (s.setPorts x).strapId = s.strapId := rfl
@[simp] theorem State.setPorts_strapRate (s : State) (x : PortsState) : (s.setPorts x).strapRate = s.strapRate := rfl
@[simp] theorem State.setPorts_resetApplied (s : State) (x : PortsState) : (s.setPorts x).resetApplied = s.resetApplied := rfl
@[simp] theorem State.setPorts_freeIx (s : State) (x : PortsState) : (s.setPorts x).freeIx = s.freeIx := rfl
@[simp] theorem State.setPorts_pending (s : State) (x : PortsState) : (s.setPorts x).pending = s.pending := rfl

/-! ### setForward -/

@[simp] theorem State.setForward_tables (s : State) (x : ByPort ForwardQueue) : (s.setForward x).tables = s.tables := rfl
@[simp] theorem State.setForward_intake (s : State) (x : ByPort ForwardQueue) : (s.setForward x).intake = s.intake := rfl
@[simp] theorem State.setForward_limits (s : State) (x : ByPort ForwardQueue) : (s.setForward x).limits = s.limits := rfl
@[simp] theorem State.setForward_split (s : State) (x : ByPort ForwardQueue) : (s.setForward x).split = s.split := rfl
@[simp] theorem State.setForward_regime (s : State) (x : ByPort ForwardQueue) : (s.setForward x).regime = s.regime := rfl
@[simp] theorem State.setForward_faults (s : State) (x : ByPort ForwardQueue) : (s.setForward x).faults = s.faults := rfl
@[simp] theorem State.setForward_watch (s : State) (x : ByPort ForwardQueue) : (s.setForward x).watch = s.watch := rfl
@[simp] theorem State.setForward_ports (s : State) (x : ByPort ForwardQueue) : (s.setForward x).ports = s.ports := rfl
@[simp] theorem State.setForward_forward (s : State) (x : ByPort ForwardQueue) : (s.setForward x).forward = x := rfl
@[simp] theorem State.setForward_mgmt (s : State) (x : ByPort ForwardQueue) : (s.setForward x).mgmt = s.mgmt := rfl
@[simp] theorem State.setForward_strapId (s : State) (x : ByPort ForwardQueue) : (s.setForward x).strapId = s.strapId := rfl
@[simp] theorem State.setForward_strapRate (s : State) (x : ByPort ForwardQueue) : (s.setForward x).strapRate = s.strapRate := rfl
@[simp] theorem State.setForward_resetApplied (s : State) (x : ByPort ForwardQueue) : (s.setForward x).resetApplied = s.resetApplied := rfl
@[simp] theorem State.setForward_freeIx (s : State) (x : ByPort ForwardQueue) : (s.setForward x).freeIx = s.freeIx := rfl
@[simp] theorem State.setForward_pending (s : State) (x : ByPort ForwardQueue) : (s.setForward x).pending = s.pending := rfl

/-! ### setMgmt -/

@[simp] theorem State.setMgmt_tables (s : State) (x : ByRequester RequesterState) : (s.setMgmt x).tables = s.tables := rfl
@[simp] theorem State.setMgmt_intake (s : State) (x : ByRequester RequesterState) : (s.setMgmt x).intake = s.intake := rfl
@[simp] theorem State.setMgmt_limits (s : State) (x : ByRequester RequesterState) : (s.setMgmt x).limits = s.limits := rfl
@[simp] theorem State.setMgmt_split (s : State) (x : ByRequester RequesterState) : (s.setMgmt x).split = s.split := rfl
@[simp] theorem State.setMgmt_regime (s : State) (x : ByRequester RequesterState) : (s.setMgmt x).regime = s.regime := rfl
@[simp] theorem State.setMgmt_faults (s : State) (x : ByRequester RequesterState) : (s.setMgmt x).faults = s.faults := rfl
@[simp] theorem State.setMgmt_watch (s : State) (x : ByRequester RequesterState) : (s.setMgmt x).watch = s.watch := rfl
@[simp] theorem State.setMgmt_ports (s : State) (x : ByRequester RequesterState) : (s.setMgmt x).ports = s.ports := rfl
@[simp] theorem State.setMgmt_forward (s : State) (x : ByRequester RequesterState) : (s.setMgmt x).forward = s.forward := rfl
@[simp] theorem State.setMgmt_mgmt (s : State) (x : ByRequester RequesterState) : (s.setMgmt x).mgmt = x := rfl
@[simp] theorem State.setMgmt_strapId (s : State) (x : ByRequester RequesterState) : (s.setMgmt x).strapId = s.strapId := rfl
@[simp] theorem State.setMgmt_strapRate (s : State) (x : ByRequester RequesterState) : (s.setMgmt x).strapRate = s.strapRate := rfl
@[simp] theorem State.setMgmt_resetApplied (s : State) (x : ByRequester RequesterState) : (s.setMgmt x).resetApplied = s.resetApplied := rfl
@[simp] theorem State.setMgmt_freeIx (s : State) (x : ByRequester RequesterState) : (s.setMgmt x).freeIx = s.freeIx := rfl
@[simp] theorem State.setMgmt_pending (s : State) (x : ByRequester RequesterState) : (s.setMgmt x).pending = s.pending := rfl

/-! ### setFreeIx -/

@[simp] theorem State.setFreeIx_tables (s : State) (x : Nat) : (s.setFreeIx x).tables = s.tables := rfl
@[simp] theorem State.setFreeIx_intake (s : State) (x : Nat) : (s.setFreeIx x).intake = s.intake := rfl
@[simp] theorem State.setFreeIx_limits (s : State) (x : Nat) : (s.setFreeIx x).limits = s.limits := rfl
@[simp] theorem State.setFreeIx_split (s : State) (x : Nat) : (s.setFreeIx x).split = s.split := rfl
@[simp] theorem State.setFreeIx_regime (s : State) (x : Nat) : (s.setFreeIx x).regime = s.regime := rfl
@[simp] theorem State.setFreeIx_faults (s : State) (x : Nat) : (s.setFreeIx x).faults = s.faults := rfl
@[simp] theorem State.setFreeIx_watch (s : State) (x : Nat) : (s.setFreeIx x).watch = s.watch := rfl
@[simp] theorem State.setFreeIx_ports (s : State) (x : Nat) : (s.setFreeIx x).ports = s.ports := rfl
@[simp] theorem State.setFreeIx_forward (s : State) (x : Nat) : (s.setFreeIx x).forward = s.forward := rfl
@[simp] theorem State.setFreeIx_mgmt (s : State) (x : Nat) : (s.setFreeIx x).mgmt = s.mgmt := rfl
@[simp] theorem State.setFreeIx_strapId (s : State) (x : Nat) : (s.setFreeIx x).strapId = s.strapId := rfl
@[simp] theorem State.setFreeIx_strapRate (s : State) (x : Nat) : (s.setFreeIx x).strapRate = s.strapRate := rfl
@[simp] theorem State.setFreeIx_resetApplied (s : State) (x : Nat) : (s.setFreeIx x).resetApplied = s.resetApplied := rfl
@[simp] theorem State.setFreeIx_freeIx (s : State) (x : Nat) : (s.setFreeIx x).freeIx = x := rfl
@[simp] theorem State.setFreeIx_pending (s : State) (x : Nat) : (s.setFreeIx x).pending = s.pending := rfl

/-! ### Taking the front command -/

@[simp] theorem step_cons (c : Instr) (rest : List Instr) (s : State) (h : s.pending = c :: rest) :
    step s = exec c { s with pending := rest } := by simp [step, h]

@[simp] theorem step_nil (s : State) (h : s.pending = []) : step s = .next s := by simp [step, h]

/-! ### Reset gate -/

@[simp] theorem State.unlessReset_none (s t : State) (h : s.resetApplied = none) : s.unlessReset t = t := by
  simp [State.unlessReset, h]

theorem State.unlessReset_some (s t : State) (h : s.resetApplied ≠ none) : s.unlessReset t = s := by
  cases k : s.resetApplied with
  | none => exact absurd k h
  | some _ => simp [State.unlessReset, k]

/-- All that the reset gate can do. -/
theorem State.unlessReset_cases (s t : State) :
    (s.resetApplied = none ∧ s.unlessReset t = t) ∨ (s.resetApplied ≠ none ∧ s.unlessReset t = s) := by
  cases k : s.resetApplied <;> simp [State.unlessReset, k]

/-! ### Components by role, port, requester, slot and frame kind -/

@[simp] theorem ByRole.get_set_self {α : Type} (x : ByRole α) (r : Role) (v : α) : (x.set r v).get r = v := by
  cases r <;> rfl

theorem ByRole.get_set_ne {α : Type} (x : ByRole α) {r r' : Role} (v : α) (h : r' ≠ r) :
    (x.set r v).get r' = x.get r' := by
  cases r <;> cases r' <;> first | rfl | exact absurd rfl h

theorem ByRole.get_set {α : Type} (x : ByRole α) (r r' : Role) (v : α) :
    (x.set r v).get r' = if r' = r then v else x.get r' := by
  cases r <;> cases r' <;> rfl

@[simp] theorem ByPort.get_set_self {α : Type} (x : ByPort α) (p : Port) (v : α) : (x.set p v).get p = v := by
  cases p <;> rfl

theorem ByPort.get_set {α : Type} (x : ByPort α) (p p' : Port) (v : α) :
    (x.set p v).get p' = if p' = p then v else x.get p' := by
  cases p <;> cases p' <;> rfl

@[simp] theorem ByPort.get_portU {α : Type} (x : ByPort α) : x.get .portU = x.u := rfl

@[simp] theorem ByPort.get_portD {α : Type} (x : ByPort α) : x.get .portD = x.d := rfl

@[simp] theorem ByPort.set_portU {α : Type} (x : ByPort α) (v : α) : x.set .portU v = { x with u := v } := rfl

@[simp] theorem ByPort.set_portD {α : Type} (x : ByPort α) (v : α) : x.set .portD v = { x with d := v } := rfl

@[simp] theorem ByRequester.get_set_self {α : Type} (x : ByRequester α) (q : Requester) (v : α) :
    (x.set q v).get q = v := by
  cases q <;> rfl

theorem ByRequester.get_set {α : Type} (x : ByRequester α) (q q' : Requester) (v : α) :
    (x.set q v).get q' = if q' = q then v else x.get q' := by
  cases q <;> cases q' <;> rfl

@[simp] theorem ByRequester.set_set {α : Type} (x : ByRequester α) (q : Requester) (v w : α) :
    (x.set q v).set q w = x.set q w := by
  cases q <;> rfl

@[simp] theorem Slots.get_set_self (x : Slots) (n : SlotName) (v : Slot) : (x.set n v).get n = v := by
  cases n <;> rfl

theorem Slots.get_set (x : Slots) (n n' : SlotName) (v : Slot) :
    (x.set n v).get n' = if n' = n then v else x.get n' := by
  cases n <;> cases n' <;> rfl

theorem Counters.get_set (x : Counters) (k k' : FrameKind) (v : Nibble) :
    (x.set k v).get k' = if k' = k then v else x.get k' := by
  cases k with
  | notice => cases k' with
    | notice => rfl
    | slot n => cases n <;> rfl
  | slot n => cases k' with
    | notice => cases n <;> rfl
    | slot n' => cases n <;> cases n' <;> rfl

@[simp] theorem TableStore.bank_setBank_self (t : TableStore) (b : BankName) (x : Bank) : (t.setBank b x).bank b = x := by
  cases b <;> rfl

theorem TableStore.bank_setBank (t : TableStore) (b b' : BankName) (x : Bank) :
    (t.setBank b x).bank b' = if b' = b then x else t.bank b' := by
  cases b <;> cases b' <;> rfl

@[simp] theorem TableStore.bank_setVerified (t : TableStore) (b b' : BankName) (v : Bool) :
    (t.setVerified b v).bank b' = t.bank b' := by
  cases b <;> cases b' <;> rfl

theorem TableStore.verified_setVerified (t : TableStore) (b b' : BankName) (v : Bool) :
    (t.setVerified b v).verified b' = if b' = b then v else t.verified b' := by
  cases b <;> cases b' <;> rfl

end Sys2Proof.Machine
end

