-- ==== Sys2Proof/Laws/Operations.lean ====
section
/-! SUPPORT. One lemma for each shared operation that says what it can do, so that later proofs cite it in place of
unfolding the operation. -/

namespace Sys2Proof.Machine

/-! ### Arithmetic (section 0.4.1, R48) -/

theorem clamp_bounds (x : Int) {lo hi : Int} (h : lo ≤ hi) : lo ≤ clamp x lo hi ∧ clamp x lo hi ≤ hi := by
  unfold clamp; split <;> [skip; split] <;> omega

theorem clamp_of_mem {x lo hi : Int} (h1 : lo ≤ x) (h2 : x ≤ hi) : clamp x lo hi = x := by
  unfold clamp; rw [if_neg (by omega), if_neg (by omega)]

theorem satHi_bounds (x : Int) : 0 ≤ satHi x ∧ satHi x ≤ 400 := clamp_bounds x (by decide)

theorem satLo_bounds (x : Int) : -400 ≤ satLo x ∧ satLo x ≤ 0 := clamp_bounds x (by decide)

/-- A free choice gives one of its two values. -/
theorem openChoice_cases {α : Type} [DecidableEq α] (free : Bool) (a b : α) :
    openChoice free a b = a ∨ openChoice free a b = b := by
  unfold openChoice
  split <;> [skip; split] <;> simp_all

/-- A free choice between equal values is that value. -/
@[simp] theorem openChoice_self {α : Type} [DecidableEq α] (free : Bool) (a : α) : openChoice free a a = a := by
  simp [openChoice]

/-! ### Banks -/

/-- Reading an entry after one was replaced. -/
theorem Bank.entryAt_setAt (x : Bank) (p : Nat) (e : Checked BankFields) (p' : Nat) (h : p' < 559) :
    (x.setAt p e).entryAt p' = if p' = p then e else x.entryAt p' := by
  unfold Bank.setAt Bank.entryAt
  by_cases hp : p' = p
  · subst hp; simp [h]
  · have hp' : ¬p = p' := fun h => hp h.symm
    simp [hp, hp']

/-- Beyond the last position an entry reads as failing. -/
theorem Bank.entryAt_of_le (x : Bank) (p : Nat) (h : 559 ≤ p) : x.entryAt p = .failing := by
  simp [Bank.entryAt, Vector.getElem?_eq_none h]

@[simp] theorem TableStore.setBank_selector (t : TableStore) (b : BankName) (x : Bank) :
    (t.setBank b x).selector = t.selector := by cases b <;> rfl

@[simp] theorem TableStore.setBank_wp (t : TableStore) (b : BankName) (x : Bank) : (t.setBank b x).wp = t.wp := by
  cases b <;> rfl

@[simp] theorem TableStore.setBank_walk (t : TableStore) (b : BankName) (x : Bank) :
    (t.setBank b x).walk = t.walk := by cases b <;> rfl

@[simp] theorem TableStore.setBank_walkedBank (t : TableStore) (b : BankName) (x : Bank) :
    (t.setBank b x).walkedBank = t.walkedBank := by cases b <;> rfl

@[simp] theorem TableStore.setBank_copy (t : TableStore) (b : BankName) (x : Bank) :
    (t.setBank b x).copy = t.copy := by cases b <;> rfl

@[simp] theorem TableStore.setBank_swapPending (t : TableStore) (b : BankName) (x : Bank) :
    (t.setBank b x).swapPending = t.swapPending := by cases b <;> rfl

@[simp] theorem TableStore.setBank_verified (t : TableStore) (b b' : BankName) (x : Bank) :
    (t.setBank b x).verified b' = t.verified b' := by cases b <;> cases b' <;> rfl

@[simp] theorem TableStore.setBank_forward (t : TableStore) (b : BankName) (x : Bank) :
    (t.setBank b x).forward = t.forward := by cases b <;> rfl

@[simp] theorem TableStore.setBank_portDefaults (t : TableStore) (b : BankName) (x : Bank) :
    (t.setBank b x).portDefaults = t.portDefaults := by cases b <;> rfl

@[simp] theorem TableStore.setBank_watch (t : TableStore) (b : BankName) (x : Bank) :
    (t.setBank b x).watch = t.watch := by cases b <;> rfl

@[simp] theorem TableStore.setBank_faultMap (t : TableStore) (b : BankName) (x : Bank) :
    (t.setBank b x).faultMap = t.faultMap := by cases b <;> rfl

@[simp] theorem TableStore.setVerified_selector (t : TableStore) (b : BankName) (v : Bool) :
    (t.setVerified b v).selector = t.selector := by cases b <;> rfl

@[simp] theorem TableStore.setVerified_wp (t : TableStore) (b : BankName) (v : Bool) :
    (t.setVerified b v).wp = t.wp := by cases b <;> rfl

@[simp] theorem TableStore.setVerified_walk (t : TableStore) (b : BankName) (v : Bool) :
    (t.setVerified b v).walk = t.walk := by cases b <;> rfl

@[simp] theorem TableStore.setVerified_walkedBank (t : TableStore) (b : BankName) (v : Bool) :
    (t.setVerified b v).walkedBank = t.walkedBank := by cases b <;> rfl

@[simp] theorem TableStore.setVerified_copy (t : TableStore) (b : BankName) (v : Bool) :
    (t.setVerified b v).copy = t.copy := by cases b <;> rfl

@[simp] theorem TableStore.setVerified_swapPending (t : TableStore) (b : BankName) (v : Bool) :
    (t.setVerified b v).swapPending = t.swapPending := by cases b <;> rfl

@[simp] theorem TableStore.setVerified_forward (t : TableStore) (b : BankName) (v : Bool) :
    (t.setVerified b v).forward = t.forward := by cases b <;> rfl

@[simp] theorem TableStore.setVerified_portDefaults (t : TableStore) (b : BankName) (v : Bool) :
    (t.setVerified b v).portDefaults = t.portDefaults := by cases b <;> rfl

@[simp] theorem TableStore.setVerified_watch (t : TableStore) (b : BankName) (v : Bool) :
    (t.setVerified b v).watch = t.watch := by cases b <;> rfl

@[simp] theorem TableStore.setVerified_faultMap (t : TableStore) (b : BankName) (v : Bool) :
    (t.setVerified b v).faultMap = t.faultMap := by cases b <;> rfl

@[simp] theorem BankName.other_other (b : BankName) : b.other.other = b := by cases b <;> rfl

@[simp] theorem BankName.other_ne (b : BankName) : b.other ≠ b := by cases b <;> decide

@[simp] theorem BankName.ne_other (b : BankName) : b ≠ b.other := by cases b <;> decide

/-- What an upset leaves alone in the Table Store. -/
theorem TableStore.strike_frame (t : TableStore) (e : EntryRef) :
    t.strike e = { t with
      bankA := (t.strike e).bankA, bankB := (t.strike e).bankB, forward := (t.strike e).forward
      portDefaults := (t.strike e).portDefaults, watch := (t.strike e).watch, faultMap := (t.strike e).faultMap } := by
  rcases e with ⟨b, tbl, i⟩ | ⟨l, i⟩
  · unfold TableStore.strike TableStore.writeBank TableStore.setBank
    (cases b <;> simp only) <;> split <;> rfl
  · cases l <;> unfold TableStore.strike <;> simp only <;> (try split) <;> rfl

/-! ### Fault events (R135) -/

theorem FaultUnit.sources_set (f : FaultUnit) (i j : Fin 12) (x : FaultSource) :
    (f.set i x).sources[j] = if j = i then x else f.sources[j] := by
  unfold FaultUnit.set
  by_cases h : j = i
  · subst h; simp
  · have : i.val ≠ j.val := fun hv => h (Fin.ext hv.symm)
    simp [h, this]

/-- A raise makes its source ACTIVE with the condition present and touches no other. -/
theorem State.raiseFault_sources (s : State) (i j : Fin 12) : (s.raiseFault i).faults.sources[j] =
    if j = i then { s.faults.sources[j] with state := .active, cond := true } else s.faults.sources[j] := by
  simp only [State.raiseFault, State.setFaults_faults, FaultUnit.sources_set]
  split
  · next h => subst h; rfl
  · rfl

/-- A removal touches no other source, and leaves its own with the condition absent when it found it so or present. -/
theorem State.removeFault_sources (s : State) (i j : Fin 12) : (s.removeFault i).faults.sources[j] =
    if j = i then (s.faults.sources[j]).removed (s.tables.faultEntry j).clearMode else s.faults.sources[j] := by
  simp only [State.removeFault, State.setFaults_faults, FaultUnit.sources_set]
  split
  · next h => subst h; rfl
  · rfl

/-- After a removal the condition is absent, and an ACTIVE source whose condition was present is ACTIVE no more. -/
theorem FaultSource.removed_spec (x : FaultSource) (m : ClearMode) :
    (x.removed m).cond = false ∧ (x.removed m).timeout = false ∧ (x.removed m).present = false ∧
      ((x.removed m).state = .active → x.state = .active ∧ x.present = false) := by
  rcases x with ⟨st, c, t⟩
  cases st <;> cases m <;> cases c <;> cases t <;> simp [FaultSource.removed, FaultSource.present]

theorem State.handFlag_cases (s : State) (i : Fin 12) (b : Bool) :
    (b = true ∧ s.handFlag i b = s.raiseFault i) ∨ (b = false ∧ s.handFlag i b = s.removeFault i) := by
  cases b <;> simp [State.handFlag]

/-- A fault event changes the Fault Unit only. -/
theorem State.handFlag_frame (s : State) (i : Fin 12) (b : Bool) :
    s.handFlag i b = s.setFaults (s.handFlag i b).faults := by
  cases b <;> rfl

theorem State.raiseFault_frame (s : State) (i : Fin 12) : s.raiseFault i = s.setFaults (s.raiseFault i).faults := rfl

theorem State.removeFault_frame (s : State) (i : Fin 12) : s.removeFault i = s.setFaults (s.removeFault i).faults := rfl

/-! ### Slots (R158) -/

/-- A placed content is the newest, and a content on the bus stays. -/
theorem Slot.place_spec (x : Slot) (c : Content) : x.place c = .waiting c ∧ x.onBus = false ∨
    ∃ c0, x.place c = .sendingNext c0 c ∧ x.onBus = true := by
  cases x <;> simp [Slot.place, Slot.onBus]

@[simp] theorem Slot.onBus_place (x : Slot) (c : Content) : (x.place c).onBus = x.onBus := by cases x <;> rfl

@[simp] theorem Slot.onBus_complete (x : Slot) : x.complete.onBus = false := by cases x <;> rfl

@[simp] theorem Slot.onBus_fail (x : Slot) : x.fail.onBus = false := by cases x <;> rfl

/-- A failed attempt leaves the newest content waiting. -/
theorem Slot.fail_spec (x : Slot) : x.fail = (match x with
    | .sending c | .sendingNext _ c | .waiting c => .waiting c
    | .empty => .empty) := by cases x <;> rfl

theorem State.place_frame (s : State) (n : SlotName) (c : Content) : s.place n c = s.setPorts (s.place n c).ports := rfl

theorem State.place_slots (s : State) (n n' : SlotName) (c : Content) :
    (s.place n c).ports.slots.get n' = if n' = n then (s.ports.slots.get n).place c else s.ports.slots.get n' := by
  simp only [State.place, State.setPorts_ports, Slots.get_set]

@[simp] theorem State.place_port (s : State) (n : SlotName) (c : Content) : (s.place n c).ports.port = s.ports.port := rfl

@[simp] theorem State.place_counters (s : State) (n : SlotName) (c : Content) :
    (s.place n c).ports.counters = s.ports.counters := rfl

/-! ### Error states (R177) -/

/-- A change of state touches the error state only. -/
theorem PortState.settled_frame (x : PortState) : x.settled = { x with error := x.settled.error } := rfl

/-- The table of R177. -/
theorem PortState.settled_error (x : PortState) : x.settled.error =
    (match x.error with
    | .errorActive =>
      if 255 < x.txCount then .busOff
      else if 127 < x.txCount ∨ 127 < x.rxCount then .errorPassive else .errorActive
    | .errorPassive =>
      if 255 < x.txCount then .busOff
      else if x.txCount ≤ 127 ∧ x.rxCount ≤ 127 then .errorActive else .errorPassive
    | .busOff => .busOff) := rfl

/-! ### Forward queues (R175) -/

/-- What an offer can do: nothing while the port is BUS_OFF, set the overflow flag of a full queue, or join its tail. -/
theorem State.offerForward_cases (s : State) (p : Port) (f : Frame) :
    ((s.ports.port.get p).error = .busOff ∧ s.offerForward p f = s) ∨
    ((s.ports.port.get p).error ≠ .busOff ∧ 16 ≤ (s.forward.get p).frames.length ∧
      s.offerForward p f = s.setForward (s.forward.set p { s.forward.get p with overflow := true })) ∨
    ((s.ports.port.get p).error ≠ .busOff ∧ (s.forward.get p).frames.length < 16 ∧
      s.offerForward p f =
        s.setForward (s.forward.set p { s.forward.get p with frames := (s.forward.get p).frames ++ [f] })) := by
  unfold State.offerForward
  by_cases h : (s.ports.port.get p).error = .busOff
  · simp [h]
  · by_cases h2 : 16 ≤ (s.forward.get p).frames.length
    · simp [h, h2]
    · simp [h, h2]; omega

theorem State.offerForward_frame (s : State) (p : Port) (f : Frame) :
    s.offerForward p f = s.setForward (s.offerForward p f).forward := by
  rcases s.offerForward_cases p f with ⟨-, h⟩ | ⟨-, -, h⟩ | ⟨-, -, h⟩ <;> rw [h] <;> rfl

/-! ### Watches (R144, R150) -/

/-- An offered notice joins a queue of fewer than 8, else the overflow flag is set. -/
theorem WatchUnit.offer_cases (w : WatchUnit) (n : QueuedNotice) :
    (w.queue.length < 8 ∧ w.offer n = { w with queue := w.queue ++ [n] }) ∨
    (8 ≤ w.queue.length ∧ w.offer n = { w with overflow := true }) := by
  unfold WatchUnit.offer
  by_cases h : w.queue.length < 8
  · simp [h]
  · simp [h]; omega

@[simp] theorem WatchUnit.offer_cells (w : WatchUnit) (n : QueuedNotice) : (w.offer n).cells = w.cells := by
  rcases w.offer_cases n with ⟨-, h⟩ | ⟨-, h⟩ <;> rw [h]

/-- An evaluating event changes the Watch Unit and uses up one free value index. -/
theorem State.evaluateWatches_frame (s : State) (ev : Evaluation) (m : Mode) :
    s.evaluateWatches ev m =
      (s.setWatch (s.evaluateWatches ev m).watch).setFreeIx (s.freeIx + 1) := rfl

/-! ### Tests and answers (R183, R184) -/

/-- OK is answered exactly when no test fails. -/
theorem firstStatus_ok (ts : List (Status × Bool)) (h : ∀ x ∈ ts, x.1 ≠ .ok) :
    firstStatus ts = .ok ↔ ∀ x ∈ ts, x.2 = false := by
  induction ts with
  | nil => simp [firstStatus]
  | cons x xs ih =>
    rcases x with ⟨st, b⟩
    have h1 := h (st, b) (by simp)
    have h2 := ih fun y hy => h y (by simp [hy])
    cases b <;> simp [firstStatus, h2, h1]

/-- An answer is applied when its status is OK, and else changes nothing and carries 0. -/
theorem answerWith_cases (s : State) (st : Status) (v : Value24) (t : State) :
    (st = .ok ∧ answerWith s st v t = ⟨.ok, v, t⟩) ∨ (st ≠ .ok ∧ answerWith s st v t = ⟨st, 0, s⟩) := by
  unfold answerWith
  by_cases h : st = .ok <;> simp [h]

/-- A request that finds its reply slot occupied sets the overrun flag and nothing more (R182). -/
theorem State.takeRequest_overrun (s : State) (q : Requester) (r : Request)
    (h : s.ports.slots.get (replySlot q) ≠ .empty) :
    s.takeRequest q r = s.setRequester q { s.mgmt.get q with overrun := true } := by
  simp [State.takeRequest, h]

/-- A request that is taken is answered and its reply placed (R182). -/
theorem State.takeRequest_taken (s : State) (q : Requester) (r : Request)
    (h : s.ports.slots.get (replySlot q) = .empty) :
    s.takeRequest q r = (s.answer q r).state.place (replySlot q) (replyOf s q r (s.answer q r)) := by
  simp [State.takeRequest, h]

/-- A request of a requester whose request would be taken now. -/
theorem State.request_of_takes (s : State) (q : Requester) (r : Request) (h : s.Takes q) :
    s.request q r = (s.answer q r).state.place (replySlot q) (replyOf s q r (s.answer q r)) := by
  rw [State.request, State.unlessReset_none _ _ h.noReset, if_neg h.online, State.takeRequest_taken _ _ _ h.slot]

/-! ### Recovery from BUS_OFF (R178, R179) -/

/-- What the recovery of a port changes: its own error state and counts, and for Port D the removal of DOWNLINK_LOSS. -/
theorem State.leaveBusOff_frame (s : State) (p : Port) :
    s.leaveBusOff p =
      (s.setPort p { s.ports.port.get p with error := .errorActive, txCount := 0, rxCount := 0, recovery := 0 }).setFaults
        (match p with
        | .portD => (s.removeFault srcDownlinkLoss).faults
        | .portU => s.faults) := by cases p <;> rfl

/-- What a run of 11 recessive bits can do: nothing outside BUS_OFF; in BUS_OFF the recovery count rises, and the run
that takes it to 128 is the recovery. -/
theorem State.recessiveRun_cases (s : State) (p : Port) :
    let x := s.ports.port.get p
    (x.error ≠ .busOff ∧ s.recessiveRun p = s) ∨
      (x.error = .busOff ∧ x.recovery < 127 ∧ s.recessiveRun p = s.setPort p { x with recovery := x.recovery + 1 }) ∨
      (x.error = .busOff ∧ 127 ≤ x.recovery ∧ s.recessiveRun p = s.leaveBusOff p) := by
  intro x
  by_cases h : x.error = .busOff
  · by_cases h2 : x.recovery + 1 < 128
    · exact .inr (.inl ⟨h, by omega, by simp [State.recessiveRun, x, h, h2]⟩)
    · exact .inr (.inr ⟨h, by omega, by simp [State.recessiveRun, x, h, h2]⟩)
  · exact .inl ⟨h, by simp [State.recessiveRun, x, h]⟩

/-! ### The Split Engine (R22, R23, R88) -/

/-- A corner read gives the cell, or the fallback cell and its place in the cell-fault record. -/
theorem readCorner_eq (bank : Bank) (cyc : CycleInputs) (band i j : Nat) (cf : CellFault) :
    readCorner bank cyc band i j cf =
      ((match bank.read (mapOf band) (i * 10 + j) with
        | .passing f => f
        | .failing => ⟨cyc.wp.fallbackShare, 0⟩),
        if bank.read (mapOf band) (i * 10 + j) = .failing then ⟨true, cyc.bank, band, i, j⟩ else cf) := by
  unfold readCorner
  cases bank.read (mapOf band) (i * 10 + j) <;> simp

/-- Filling the slots changes the Ports only. -/
theorem State.fillSlots_frame (s : State) (cyc : CycleInputs) (x : CycleResult) :
    s.fillSlots cyc x = s.setPorts (s.fillSlots cyc x).ports := by
  unfold State.fillSlots
  split <;> rfl

/-- What a completion leaves in the split state. -/
theorem State.completeCycle_split (s : State) (cyc : CycleInputs) :
    (s.completeCycle cyc).split = s.split.completed cyc (computeCycle s.tables s.split cyc) := by
  simp only [State.completeCycle, State.completeRegime, State.setRegime_split]
  rw [State.evaluateWatches_frame, State.fillSlots_frame]
  rfl

/-- What a completion leaves in the slots. -/
theorem State.completeCycle_ports (s : State) (cyc : CycleInputs) :
    (s.completeCycle cyc).ports = (s.fillSlots cyc (computeCycle s.tables s.split cyc)).ports := by
  simp only [State.completeCycle, State.completeRegime, State.setRegime_ports]
  rw [State.evaluateWatches_frame]
  unfold State.fillSlots
  split <;> rfl

/-! ### Saturation (R48) -/

theorem satHi_eq (x : Int) : satHi x = max 0 (min 400 x) := by unfold satHi clamp; repeat' split <;> omega

theorem satLo_eq (x : Int) : satLo x = max (-400) (min 0 x) := by unfold satLo clamp; repeat' split <;> omega

/-! ### The latch and the walk (R12, R20) -/

theorem firstFailing_eq_none (l : List (Checked BankFields)) (p : Nat) :
    firstFailing l p = none ↔ ∀ e ∈ l, e ≠ .failing := by
  induction l generalizing p with
  | nil => simp [firstFailing]
  | cons x xs ih => cases x <;> simp [firstFailing, ih]

theorem firstFailing_eq_some (l : List (Checked BankFields)) (p q : Nat) (h : l[q]? = some .failing)
    (h2 : ∀ q' < q, l[q']? ≠ some .failing) : firstFailing l p = some (p + q) := by
  induction l generalizing p q with
  | nil => simp at h
  | cons x xs ih =>
    cases q with
    | zero => simp at h; subst h; simp [firstFailing]
    | succ q =>
      have h0 := h2 0 (by omega)
      simp at h0
      cases x with
      | failing => exact absurd rfl h0
      | passing f =>
        simp only [firstFailing]
        rw [ih (p + 1) q (by simpa using h) (fun q' hq' => by simpa using h2 (q' + 1) (by omega))]
        congr 1; omega

theorem Bank.entryAt_latched (x : Bank) (p : Nat) (hp : p < 79) :
    (x.entries.toList.take 79)[p]? = some (x.entryAt p) := by
  have h559 : p < 559 := by omega
  simp [Bank.entryAt, hp, h559]

/-- The latch is made when all 79 entries pass. -/
theorem Bank.latchFailure_none (x : Bank) (h : ∀ p, p < 79 → x.entryAt p ≠ .failing) : x.latchFailure = none := by
  unfold Bank.latchFailure
  rw [(firstFailing_eq_none _ _).2]
  · rfl
  · intro e he
    obtain ⟨p, hp, rfl⟩ := List.getElem_of_mem he
    have hp79 : p < 79 := by simp at hp; omega
    have := x.entryAt_latched p hp79
    rw [List.getElem?_eq_getElem hp] at this
    simp only [Option.some.injEq] at this
    rw [this]; exact h p hp79

/-- A latch that meets a failing entry names the first. -/
theorem Bank.latchFailure_some (x : Bank) (p : Nat) (hp : p < 79) (hf : x.entryAt p = .failing)
    (hpre : ∀ p', p' < p → x.entryAt p' ≠ .failing) :
    x.latchFailure = some ⟨(tableAt p).1, (tableAt p).2, .check⟩ := by
  unfold Bank.latchFailure
  rw [firstFailing_eq_some _ 0 p (by rw [x.entryAt_latched _ hp, hf])
    (fun q hq => by rw [x.entryAt_latched _ (by omega)]; simpa using hpre q hq)]
  simp

theorem Bank.latched_at (x : Bank) (p : Nat) (hp : p < 79) : x.latched.at p = (x.entryAt p).firstField := by
  simp [WorkingParams.at, Bank.latched, hp]

/-- A walk that has tested all 559 entries goes no further. -/
theorem TableStore.walkOn_done (n : Nat) (t : TableStore) (k : WalkKind) (seen : List Int)
    (h : t.walk = .running k 559 seen) : TableStore.walkOn n t = t := by
  induction n with
  | zero => rfl
  | succ n ih =>
    simp only [TableStore.walkOn, h]
    have : t.walkStep = t := by simp [TableStore.walkStep, h]
    rw [this, ih]

/-- A swap changes of the Regime Controller its counts only, and raises no attempt count. -/
theorem State.takeSwap_regime (s : State) : ∃ a w u, a ≤ s.regime.attempts ∧
    s.takeSwap.regime = { s.regime with attempts := a, want := w, unwant := u } := by
  unfold State.takeSwap
  simp only
  split
  · exact ⟨_, _, _, le_refl _, rfl⟩
  · exact ⟨_, _, _, Nat.min_le_left _ _, rfl⟩

/-- The regime a cycle start leaves is the settled one, but for the counts a swap taken at it changes. -/
theorem State.startCycle_regime (s : State) (k : CycleKind) :
    let r := s.regime.settle s.tables.wp s.settleInputs
    ∃ a w u, (s.startCycle k).regime = { r with attempts := a, want := w, unwant := u } ∧ a ≤ r.attempts ∧
      (s.tables.swapPending = false → (s.startCycle k).regime = r) := by
  unfold State.startCycle State.swapAtStart
  simp only [State.setSplit_regime, State.updateLimits, State.readWatchTable, State.setLimits_regime,
    State.setWatch_regime]
  split
  · next h =>
    obtain ⟨a, w, u, ha, hr⟩ := State.takeSwap_regime
      (s.setSplit { s.split with waiting := none }).settle
    exact ⟨a, w, u, hr, ha, fun hs => by
      have : s.tables.swapPending = true := h.1
      rw [hs] at this; cases this⟩
  · exact ⟨_, _, _, rfl, le_refl _, fun _ => rfl⟩

/-! ### Acceptance (R31, R38, R45) -/

theorem State.storeFrame_frame (s : State) (r : Role) (d : List Byte) :
    s.storeFrame r d = { s with intake := (s.storeFrame r d).intake, faults := (s.storeFrame r d).faults } := by
  unfold State.storeFrame
  simp only
  split <;> rfl

theorem State.storeFrame_intake (s : State) (r : Role) (d : List Byte) :
    (s.storeFrame r d).intake = { s.intake.store r d with
      streams := s.intake.streams.set r (acceptedMeta s.tables.wp r (s.intake.streams.get r) d)
      fillIn := if r = .demand then .stopped else s.intake.fillIn } := by
  unfold State.storeFrame
  simp only
  split <;> rfl

/-- What handing on an acceptance may change. -/
theorem State.handAcceptance_frame (s : State) (r : Role) :
    s.handAcceptance r = { s with
      split := (s.handAcceptance r).split, limits := (s.handAcceptance r).limits
      regime := (s.handAcceptance r).regime, faults := (s.handAcceptance r).faults
      watch := (s.handAcceptance r).watch, freeIx := (s.handAcceptance r).freeIx } := by
  cases r <;> simp only [State.handAcceptance]
  · rfl
  · unfold State.handBattery; simp only [State.handFlag]; split <;> rfl
  · unfold State.handInverter; simp only [State.handFlag]; split <;> rfl
  · unfold State.handEngine; simp only [State.handFlag]; split <;> rfl
  · unfold State.handClutch; simp only [State.handFlag]; split <;> rfl
  · rfl

/-- A frame that passes the tests of R28 is not discarded. -/
theorem discardReason_none {m : StreamMeta} {f : Frame} (h : m.Accepts f) : discardReason m f = none := by
  unfold discardReason
  rw [if_neg (by simpa using h.length), if_neg (by simpa using h.check), if_neg]
  rintro ⟨h1, h2⟩
  rcases h.fresh with h3 | h3
  · exact h1 h3
  · exact h3 h2

/-- A frame that is none of the management frames is classified. -/
theorem State.Classifies.other {s : State} {p : Port} {f : Frame} (h : s.Classifies p f) :
    mgmtUse s.strapId f.id = .other := by
  have h1 := h.plain .supervisor
  have h2 := h.plain .service
  simp [mgmtUse, h1, h2]

/-- What a frame is offered to does not depend on the receive count of the other port. -/
theorem State.offerForward_counted (s : State) (p : Port) (f : Frame) : (s.countReceived p).offerForward p.other f =
    (s.countReceived p).setForward (s.offerForward p.other f).forward := by
  have e1 : ((s.countReceived p).ports.port.get p.other) = s.ports.port.get p.other := by cases p <;> rfl
  have e2 : (s.countReceived p).forward = s.forward := rfl
  unfold State.offerForward
  simp only [e1, e2]
  split
  · rfl
  · split <;> rfl

/-- A frame that is consumed under a role is delivered, and with CONSUME_PASS offered to the other port as well. -/
theorem exec_frameReceived_consumed {s : State} {p : Port} {r : Role} {a : FwdAction} {f : Frame}
    (h : s.Classifies p f) (hc : s.tables.classify p f.id = (a, some r)) (ha : a = .consume ∨ a = .consumePass) :
    exec (.frameReceived p f) s = .next (((s.countReceived p).setForward
      (if a = .consumePass then (s.offerForward p.other f).forward else s.forward)).deliver r f) := by
  have hrec : s.receives p = true := by simp [State.receives, h.online]
  simp only [exec, execFrameReceived, State.unlessReset_none _ _ h.noReset, hrec, h.size, and_self, if_true]
  have e1 : (s.countReceived p).strapId = s.strapId := rfl
  have e2 : (s.countReceived p).tables = s.tables := rfl
  simp only [State.classifyFrame, e1, e2, h.other, hc]
  rcases ha with rfl | rfl
  · simp only [State.act, State.deliverRole]; rfl
  · simp only [State.act, State.deliverRole, State.offerForward_counted]; rfl

/-- A start that waits is taken while no cycle is under way. -/
theorem exec_splitCycleStart {s : State} {k : CycleKind} (h : s.resetApplied = none) (h2 : s.split.cycle = none)
    (h3 : s.split.waiting = some k) : exec .splitCycleStart s = .next (s.startCycle k) := by
  simp [exec, execSplitCycleStart, State.unlessReset, h, h2, h3]

/-- A cycle under way is completed. -/
theorem exec_splitCycleCompletion {s : State} {cyc : CycleInputs} (h : s.resetApplied = none)
    (h2 : s.split.cycle = some cyc) : exec .splitCycleCompletion s = .next (s.completeCycle cyc) := by
  simp [exec, execSplitCycleCompletion, State.unlessReset, h, h2]


/-! ### The swap and the cycle start (R18, R19, R65, R99) -/

/-- The regimes that let a pending swap be taken at a cycle start are all but CRANK, SYNC and RELEASE. -/
theorem Regime.allowsSwap_iff (r : Regime) : r.allowsSwap = true ↔ ¬(r = .crank ∨ r = .sync ∨ r = .release) := by
  cases r <;> simp [Regime.allowsSwap]

/-- A swap whose latch is made. -/
theorem State.takeSwap_made (s : State)
    (h : ∀ p, p < 79 → (s.tables.bank s.tables.shadow).entryAt p ≠ .failing) :
    let wp := (s.tables.bank s.tables.shadow).latched
    s.takeSwap = { s with
      tables := { (s.tables.setVerified s.tables.selector false) with
        selector := s.tables.shadow, swapPending := false, wp := wp }
      limits := { s.limits with static := staticRecord wp }
      regime := { s.regime with
        attempts := min s.regime.attempts wp.crankAttemptsMax.toNat, want := 0, unwant := 0 }
      split := { s.split with
        recompute := true, cycle := s.split.cycle.map fun c => { c with remarked := true } } } := by
  have hl := Bank.latchFailure_none _ h
  unfold State.takeSwap
  simp only [hl]
  generalize hw : (s.tables.bank s.tables.shadow).latched = w
  unfold State.adopt
  simp only [hw]
  cases s.tables.selector <;> rfl

/-- The swap of a cycle start touches no watch. -/
theorem State.swapAtStart_watch (s : State) : s.swapAtStart.watch = s.watch := by
  unfold State.swapAtStart State.takeSwap
  split
  · simp only
    split <;> simp only [State.adopt, State.setRegime_watch, State.setTables_watch, State.setSplit_watch,
      State.setLimits_watch]
  · rfl

/-- What a cycle start leaves of the state `a` that the settling and the swap leave. -/
theorem State.startCycle_spec (s : State) (k : CycleKind) :
    ∃ a, a = (s.setSplit { s.split with waiting := none }).settle.swapAtStart ∧
      (s.startCycle k).tables = a.tables ∧ (s.startCycle k).regime = a.regime ∧
      (s.startCycle k).limits.static = a.limits.static ∧ (s.startCycle k).split = { a.split with
        cycle := some (a.readWatchTable.updateLimits.fixInputs k), started := true } ∧
      (s.startCycle k).watch.queue = a.watch.queue ∧ (s.startCycle k).watch.overflow = a.watch.overflow := by
  refine ⟨_, rfl, ?_⟩
  simp only [State.startCycle]
  generalize (s.setSplit { s.split with waiting := none }).settle.swapAtStart = a
  simp only [State.updateLimits, State.readWatchTable, State.recordsAtStart, State.setSplit, State.setLimits,
    State.setWatch, and_self]

/-- An entry sets the mode and keeps the dwell counts. -/
@[simp] theorem RegimeState.enter_want (wp : WorkingParams) (m : Mode) (r : RegimeState) :
    (r.enter wp m).want = r.want := rfl

@[simp] theorem RegimeState.enter_unwant (wp : WorkingParams) (m : Mode) (r : RegimeState) :
    (r.enter wp m).unwant = r.unwant := rfl

@[simp] theorem RegimeState.enter_mode (wp : WorkingParams) (m : Mode) (r : RegimeState) : (r.enter wp m).mode = m := rfl

/-! ### Effective values, fault-map entries as read (R9, R37, R57, R96, R134) -/

theorem Intake.effDemand_eq (x : Intake) : x.effDemand =
    ⟨if x.live .demand then x.demand.torque else 0, x.live .demand && x.demand.ready,
      !x.live .demand || x.demand.zone⟩ := by
  unfold Intake.effDemand; cases x.live .demand <;> rfl

theorem Intake.effBattery_eq (x : Intake) (wp : WorkingParams) : x.effBattery wp =
    { x.battery with
      soc := if x.live .battery then x.battery.soc else 0
      pDis := if x.live .battery then x.battery.pDis else wp.pDisFb
      pChg := if x.live .battery then x.battery.pChg else wp.pChgFb } := by
  unfold Intake.effBattery; cases x.live .battery <;> rfl

theorem Intake.effInverter_eq (x : Intake) : x.effInverter =
    { x.inverter with
      speed := if x.live .inverter then x.inverter.speed else 0
      motoring := if x.live .inverter then x.inverter.motoring else 0
      generating := if x.live .inverter then x.inverter.generating else 0 } := by
  unfold Intake.effInverter; cases x.live .inverter <;> rfl

theorem Intake.effEngine_eq (x : Intake) : x.effEngine =
    { x.engine with
      speed := if x.live .engine then x.engine.speed else 0
      running := x.live .engine && x.engine.running
      available := if x.live .engine then x.engine.available else 0
      drag := if x.live .engine then x.engine.drag else 0 } := by
  unfold Intake.effEngine; cases x.live .engine <;> rfl

theorem Intake.effClutch_eq (x : Intake) : x.effClutch =
    { x.clutch with state := if x.live .clutch then x.clutch.state else .slipping } := by
  unfold Intake.effClutch; cases x.live .clutch <;> rfl

theorem Intake.effBrake_eq (x : Intake) : x.effBrake = ⟨if x.live .brake then x.brake.regen else 0⟩ := by
  unfold Intake.effBrake; cases x.live .brake <;> rfl

/-- What the owners read of a fault-map entry is what R9 and R134 table. -/
theorem TableStore.faultEntry_eq (t : TableStore) (i : Fin 12) : t.faultEntry i = t.readFaultEntry i := by
  have h : ∀ i : Fin 12, defaultFaultEntry i = tabledFaultEntry i := by decide
  unfold TableStore.faultEntry TableStore.readFaultEntry
  cases t.faultMap[i] <;> simp [h]

theorem FaultState.ne_clear_iff (x : FaultState) : x ≠ .clear ↔ x = .active ∨ x = .awaitAck := by cases x <;> decide

/-- The entries in force are those of the sources in ACTIVE or AWAIT_ACK, as read. -/
theorem mem_entriesInForce (f : FaultUnit) (t : TableStore) (e : FaultEntry) : e ∈ entriesInForce f t ↔
    ∃ i : Fin 12, (f.sources[i].state = .active ∨ f.sources[i].state = .awaitAck) ∧ t.readFaultEntry i = e := by
  have all : ∀ i : Fin 12, i ∈ sourceIndices := by decide
  simp only [entriesInForce, List.mem_map, List.mem_filter, all, true_and, decide_eq_true_eq, FaultState.ne_clear_iff,
    TableStore.faultEntry_eq]

/-- Under the CLUTCH_LOCK reading the combined consequence is never LIMP_ENGINE (R96). -/
theorem combinedConsequence_lock (f : FaultUnit) (t : TableStore) (h : lockReading f t = true) :
    combinedConsequence f t ≠ .limpEngine := by
  unfold combinedConsequence
  simp only [h]
  split <;> [skip; split <;> [skip; split <;> [skip; split <;> [skip; split]]]] <;> simp_all

/-! ### Frames the part builds and takes (R162, R173, R200) -/

/-- A bit of a word that holds one value at its place. -/
theorem putBits_getLsbD (width lo n : Nat) (v : Int) (k : Nat) (hk : k < width) :
    (putBits width lo n v).getLsbD k = true ↔
      lo ≤ k ∧ k < lo + n ∧ (BitVec.ofInt n v).getLsbD (k - lo) = true := by
  unfold putBits
  rw [BitVec.getLsbD_shiftLeft, BitVec.getLsbD_setWidth]
  simp only [hk, decide_true, Bool.true_and, Bool.and_eq_true, Bool.not_eq_true', decide_eq_false_iff_not,
    decide_eq_true_eq]
  constructor
  · rintro ⟨h1, h2, h3⟩
    have := BitVec.lt_of_getLsbD h3
    exact ⟨by omega, by omega, h3⟩
  · rintro ⟨h1, h2, h3⟩
    exact ⟨by omega, by omega, h3⟩

/-- Bytes 0 to 5 carry the data word. -/
theorem frameBytes_word (id : Ident) (w : DataWord) (upper counter : Nibble) (k : Nat) (hk : k < 48) :
    ((frameBytes id w upper counter).getD (k / 8) 0).getLsbD (k % 8) = w.getLsbD k := by
  have hq : k / 8 < 6 := by omega
  have hm : k % 8 < 8 := Nat.mod_lt _ (by omega)
  have he : k = 8 * (k / 8) + k % 8 := by omega
  generalize k / 8 = q at *
  interval_cases q <;> simp [frameBytes, hm] <;> congr 1 <;> omega

/-- Byte 6 carries the upper bits above the counter. -/
theorem frameBytes_byte6 (id : Ident) (w : DataWord) (upper counter : Nibble) :
    (frameBytes id w upper counter).getD 6 0 = upper ++ counter := rfl

/-- The check byte as a number. -/
theorem checkByte_toNat (id : Ident) (l : List Byte) :
    (checkByte id l).toNat = 255 - ((l.map BitVec.toNat).sum + id.toNat % 256) % 256 := by
  unfold checkByte
  rw [BitVec.toNat_ofNat]
  have : ((l.map BitVec.toNat).sum + id.toNat % 256) % 256 < 256 := Nat.mod_lt _ (by omega)
  omega

/-- The management test knows a requester's own identifier. -/
theorem mgmtUse_request (strap : BitVec 2) (q : Requester) : mgmtUse strap (requestIdent strap q) = .request q := by
  cases q
  · simp [mgmtUse]
  · have : requestIdent strap .service ≠ requestIdent strap .supervisor := by
      revert strap; decide
    simp [mgmtUse, this]

/-- A content placed in an EMPTY slot waits there. -/
theorem State.place_empty (s : State) (n : SlotName) (c : Content) (h : s.ports.slots.get n = .empty) :
    s.place n c = s.setPorts { s.ports with slots := s.ports.slots.set n (.waiting c) } := by
  simp [State.place, h, Slot.place]

end Sys2Proof.Machine
end

