-- ==== Sys2Proof/Tests/Slice0.lean ====
section
/-! SUPPORT. The model's own tests: the ill-formed terms that WellFormed refuses, the manual's worked examples, and for
every statement with hypotheses a concrete state and operands that meet them, clause by clause. -/

namespace Sys2Proof.Tests

open Sys2Proof.Machine

/-! ### States and frames the tests are built from -/

/-- A data frame as a sender of a stream builds it (R199). -/
def frameOf (id : Ident) (w : DataWord) (upper counter : Nibble) : Frame := ⟨id, frameBytes id w upper counter⟩

/-- The reset state with another regime and phase. -/
def inMode (m : Mode) : State := State.reset.setRegime { State.reset.regime with mode := m }

/-- The reset state with one stream entry replaced. -/
def withStream (r : Role) (m : StreamMeta) : State := State.reset.setStream r m

/-- The reset state with a source ACTIVE, its condition present. -/
def withFault (i : Fin 12) : State := State.reset.raiseFault i

/-- The reset state with a start that waits. -/
def startWaits (s : State) : State := s.setSplit { s.split with waiting := some .demand }

/-- A cycle under way that the reset state could have started. -/
def someCycle : CycleInputs := State.reset.fixInputs .demand

/-- A state with a cycle under way. -/
def cycling (s : State) (c : CycleInputs) : State := s.setSplit { s.split with cycle := some c }

/-- A bank whose every entry passes its check with the same fields. -/
def evenBank (f : BankFields) : Bank := ⟨Vector.replicate 559 (.passing f)⟩

/-- The reset state with another Table Store. -/
def withTables (t : TableStore) : State := State.reset.setTables t

theorem entryAt_evenBank (f : BankFields) (p : Nat) (h : p < 559) : (evenBank f).entryAt p = .passing f := by
  simp [evenBank, Bank.entryAt, h]

/-! ### WellFormed refuses -/

theorem test_upset_of_no_entry_refused : (Instr.upset (.bank .bankA .thresh 3)).wellFormed = false := by decide
theorem test_upset_of_no_live_entry_refused : (Instr.upset (.live .faultMap 12)).wellFormed = false := by decide
theorem test_upset_of_last_entries_accepted :
    (Instr.upset (.bank .bankB .map3 119)).wellFormed = true ∧ (Instr.upset (.live .forward 47)).wellFormed = true := by
  decide
theorem test_nine_byte_frame_refused : (Instr.frameReceived .portU ⟨0x110, List.replicate 9 0⟩).wellFormed = false := by
  decide
theorem test_request_is_not_malformed :
    (Instr.malformedRequest .service [3, 0, 0, 0, 0, 0, 0, 0]).wellFormed = false := by decide
theorem test_nine_byte_request_refused : (Instr.malformedRequest .service (List.replicate 9 0)).wellFormed = false := by
  decide
theorem test_malformed_requests_accepted :
    (Instr.malformedRequest .service [3]).wellFormed = true ∧
      (Instr.malformedRequest .service [9, 0, 0, 0, 0, 0, 0, 0]).wellFormed = true ∧
      (Instr.malformedRequest .service [0, 0, 11, 0, 0, 0, 0, 0]).wellFormed = true ∧
      (Instr.malformedRequest .service [1, 0, 7, 0, 0, 0, 0, 0]).wellFormed = true := by decide
theorem test_write_of_field_0_refused :
    (Instr.write .supervisor 0 .shadow (.bank .param) 0 0 0).wellFormed = false := by decide
theorem test_status_read_of_the_capture_refused : (Instr.statusRead .supervisor 0 0 0 0).wellFormed = false := by decide

/-! ### The table gives no bits -/

/-- No row of spec/opcode_table.json gives bits, so no word spells a command. -/
theorem test_no_word_spells_a_command : decodeTableWord 8 0 = none ∧ decodeTableWord 64 1 = none := by decide

/-! ### Worked examples of the manual -/

/-- Section 11.2: the DEMAND frame with counter 7, 120 Nm, READY set. -/
theorem test_check_byte_of_demand_120 :
    frameOf 0x110 (wordDemand ⟨120, true, false⟩) (flagsDemand ⟨120, true, false⟩) 7 =
      ⟨0x110, [0x78, 0, 0, 0, 0, 0, 0x17, 0x60]⟩ := by decide

/-- Section 11.2: the next frame, with counter 8 and −180 Nm. -/
theorem test_check_byte_of_demand_minus_180 :
    frameOf 0x110 (wordDemand ⟨-180, true, false⟩) (flagsDemand ⟨-180, true, false⟩) 8 =
      ⟨0x110, [0x4C, 0x0F, 0, 0, 0, 0, 0x18, 0x7C]⟩ := by decide

/-- Section 11.2: the same bytes under 0x111 are discarded for CHECK. -/
theorem test_other_identifier_fails_the_check :
    discardReason resetStream ⟨0x111, [0x4C, 0x0F, 0, 0, 0, 0, 0x18, 0x7C]⟩ = some .check := by decide

/-- Section 11.2: −180 Nm as received. -/
theorem test_decode_minus_180 :
    decodeDemand [0x4C, 0x0F, 0, 0, 0, 0, 0x18, 0x7C] = ⟨-180, true, false⟩ := by decide

/-- R54, the row of 3000 rpm. -/
theorem test_battery_lanes_3000 :
    batteryMotHi 1000 920 3000 = 292 ∧ batteryMotLo 1000 900 3000 = -353 := by decide

/-- R69: a SOC of 505 stays in band 1 and a SOC of 520 moves up with the default thresholds. -/
theorem test_band_505_520 : movedBand defaultWorking 1 505 = 1 ∧ movedBand defaultWorking 1 520 = 2 := by decide

/-- Section 9.6: the sixteenth error takes the transmit count to 128 and the port to ERROR_PASSIVE. -/
theorem test_sixteenth_error :
    (PortState.txFailed ⟨.errorActive, 120, 0, 0, none⟩ .other).error = .errorPassive ∧
      (PortState.txFailed ⟨.errorActive, 112, 0, 0, none⟩ .other).error = .errorActive := by decide

/-- Section 9.6: the thirty-second error takes the count to 256 and the port to BUS_OFF, but a missing acknowledgement
in ERROR_PASSIVE does not (R176). -/
theorem test_thirty_second_error :
    PortState.txFailed ⟨.errorPassive, 248, 0, 0, none⟩ .other = ⟨.busOff, 256, 0, 0, none⟩ ∧
      PortState.txFailed ⟨.errorPassive, 248, 0, 0, none⟩ .missingAck = ⟨.errorPassive, 248, 0, 0, none⟩ := by decide

/-- R173: the four management bases. -/
theorem test_management_bases :
    requestIdent 0 .supervisor = 0x6A0 ∧ requestIdent 1 .service = 0x6B1 ∧ replyIdent 2 .supervisor = 0x6C2 ∧
      replyIdent 3 .service = 0x6D3 := by decide

/-- R172: the power-on default forwarding table takes a BATTERY frame of Port U with CONSUME_PASS. -/
theorem test_battery_is_consumed_and_passed :
    State.reset.tables.classify .portU 0x180 = (.consumePass, some .battery) := by decide +kernel

/-- R202: the bytes of a READ of WATCH entry 7, field 4, tag 9. -/
theorem test_read_request_bytes :
    Request.ofBytes [0, 9, 0x49, 7, 0, 0, 0, 0] = ⟨some .read, 9, .active, 9, 4, 7, 0⟩ := by decide

/-- R184: HOLD_PENDING is tested before HELD (section 10.10, the row of 30 ms). -/
theorem test_hold_pending_before_held :
    firstStatus [(.wrongRegime, false), (.holdPending, true), (.held, true)] = .holdPending := by decide

/-- R201: the consequence codes are 0 to 3, so a WRITE of 4 has no meaning. -/
theorem test_consequence_code_4_has_no_meaning : Consequence.ofCode 3 = some .safe ∧ Consequence.ofCode 4 = none := by
  decide

/-- R127, R168: the first cycle after a reset is fixed in STANDBY, also with every condition of R105 met. -/
def readyToLeave (started : Bool) : State :=
  let m : StreamMeta := ⟨.fresh, some 0, .running 30, .stopped, .none, false⟩
  { State.reset with
    intake := { resetIntake with streams := ⟨m, m, m, m, m, m⟩, demand := ⟨100, true, false⟩ }
    tables := { powerOnTables with verifiedA := true }
    split := { State.reset.split with waiting := some .demand, started := started } }

theorem test_first_cycle_is_fixed_in_standby :
    (readyToLeave false).settle.regime.mode = .standby ∧ (readyToLeave true).settle.regime.mode = .electric := by
  decide +kernel

/-- R178: the 128th run of 11 recessive bits ends BUS_OFF. -/
theorem test_the_128th_run_recovers :
    ((State.reset.setPort .portU ⟨.busOff, 256, 0, 126, none⟩).recessiveRun .portU).ports.port.u =
        ⟨.busOff, 256, 0, 127, none⟩ ∧
      ((State.reset.setPort .portU ⟨.busOff, 256, 0, 127, none⟩).recessiveRun .portU).ports.port.u =
        ⟨.errorActive, 0, 0, 0, none⟩ := by decide +kernel

/-! ### Witnesses: the queue and the resets -/

theorem witness_StepTakesTheFrontCommand :
    ∃ (c : Instr) (rest : List Instr) (s : State), s.pending = c :: rest :=
  ⟨.pinReset, [.fillInExpiry], { State.reset with pending := [.pinReset, .fillInExpiry] }, rfl⟩

/-- A reset applied, and each command that stands for no event: in the reset state, in one with an attempt in progress, and
with a walk and a copy that have no entry left. -/
theorem witness_EveryCommandCompletesAndNonEventsChangeNothing :
    (State.reset.resetBlocks powerOnTables .pin).resetApplied ≠ none ∧ State.reset.resetApplied = none ∧
      (EntryRef.bank .bankA .thresh 3).wf = false ∧ 8 < (List.replicate 9 (0 : Byte)).length ∧
      (∀ r : Role, (State.reset.intake.streams.get r).deadline = .stopped ∧
        (State.reset.intake.streams.get r).hold = .stopped) ∧
      State.reset.intake.fillIn = .stopped ∧ State.reset.split.cycle = none ∧ State.reset.split.waiting = none ∧
      (State.reset.regime.crankT = .stopped ∧ State.reset.regime.syncT = .stopped ∧
        State.reset.regime.clutchT = .stopped ∧ State.reset.regime.retryT = .stopped ∧
        ∀ period, State.reset.regime.minRun ≠ .running period) ∧
      (∀ k pos seen, State.reset.tables.walk ≠ .running k pos seen) ∧ State.reset.tables.copy = none ∧
      (∃ s : State, s.tables.walk = .running .commit 559 [] ∧ s.tables.copy = some 559) ∧
      (∀ p : Port, (State.reset.ports.port.get p).attempt = none ∧ (State.reset.ports.port.get p).error ≠ .busOff) ∧
      (∃ s : State, (s.ports.port.get .portU).attempt ≠ none) ∧
      ∀ q : Requester, (State.reset.mgmt.get q).window = .stopped :=
  ⟨nofun, rfl, by decide, by decide, fun r => by cases r <;> exact ⟨rfl, rfl⟩, rfl, rfl, rfl,
    ⟨rfl, rfl, rfl, rfl, nofun⟩, nofun, rfl,
    ⟨State.reset.setTables { powerOnTables with walk := .running .commit 559 [], copy := some 559 }, rfl, rfl⟩,
    fun p => by cases p <;> exact ⟨rfl, by decide⟩,
    ⟨State.reset.setPort .portU ⟨.errorActive, 0, 0, 0, some ⟨.notice, ⟨0x6F0, []⟩⟩⟩, nofun⟩,
    fun q => by cases q <;> rfl⟩

theorem witness_PinResetKeepsContents :
    State.reset.resetApplied = none ∧ (State.reset.resetBlocks powerOnTables .powerOn).resetApplied ≠ none :=
  ⟨rfl, nofun⟩

/-- A POWER_ON reset with none applied and during a PIN reset, a PIN reset, and an end with and without a reset applied. -/
theorem witness_BothResetsClearTheBlocks :
    (∃ s : State, s.resetApplied = none ∧ s.regime.mode = .hybridShared) ∧
      (∃ s : State, s.resetApplied = some .pin) ∧ (∃ s : State, s.resetApplied = some .powerOn) :=
  ⟨⟨inMode .hybridShared, rfl, rfl⟩, ⟨State.reset.resetBlocks powerOnTables .pin, rfl⟩,
    ⟨State.reset.resetBlocks powerOnTables .powerOn, rfl⟩⟩

theorem witness_ResetStateMeetsTheInvariants :
    ∃ s t u : State, exec .powerOnReset s = .next t ∧ exec (.resetEnd 0 false) t = .next u :=
  ⟨State.reset, _, _, rfl, rfl⟩

/-! ### Witnesses: the Table Store -/

theorem witness_UpsetStrikesOneEntry :
    (EntryRef.bank .bankB .param 0).wf = true ∧ (EntryRef.bank .bankA .map3 119).wf = true ∧
      (EntryRef.live .forward 46).wf = true ∧ (EntryRef.live .forward 47).wf = true ∧
      (EntryRef.live .watch 15).wf = true ∧ (EntryRef.live .faultMap 11).wf = true := by decide

/-- A Table Store whose commit walk of bank A stands at an entry, every entry holding the given fields, after entries
of the given first field. -/
def walkingAt (pos : Nat) (seen : Int) (f : BankFields) : TableStore :=
  { powerOnTables with
    bankA := evenBank f, walk := .running .commit pos (List.replicate (min pos 79) seen), walkedBank := .bankA }

theorem walkingAt_passes (pos : Nat) (seen : Int) (f : BankFields) (h : pos < 559) :
    ((walkingAt pos seen f).bank (walkingAt pos seen f).walkedBank).entryAt pos = .passing f := entryAt_evenBank f pos h

/-- A walk that stands at any entry, with each outcome at the values where they meet: a failing first entry, the bounds
of the first parameter and of an offset, speed breakpoint 1 at and above breakpoint 0 with two in use, and `e_off` at
and below `e_on`. -/
theorem witness_WalkEntryTested :
    (powerOnTables.bank .bankA).entryAt 0 = .failing ∧
      (∀ pos seen f, pos < 559 →
        (walkingAt pos seen f).walk = .running .commit pos (List.replicate (min pos 79) seen) ∧
        ((walkingAt pos seen f).bank (walkingAt pos seen f).walkedBank).entryAt pos = .passing f) ∧
      (∃ f : BankFields, f.f1 < (paramRows.getD 16 ⟨0, 0, 0⟩).lo) ∧
      (∃ f : BankFields, 0 ≤ f.f1 ∧ f.f1 ≤ 1000 ∧ 150 < f.f2) ∧ (∃ f : BankFields, f.f1 = 1000 ∧ f.f2 = 150) ∧
      (∃ (seen : List Int) (f g : BankFields), seen.length = 55 ∧ (55 : Int) - 54 ≤ seen.getD 13 0 - 1 ∧
        ¬seen.getD 54 0 < f.f1 ∧ seen.getD 54 0 < g.f1) ∧
      (∃ (seen : List Int) (f g : BankFields), seen.length = 16 ∧ ¬f.f1 < seen.getD 15 0 ∧ g.f1 < seen.getD 15 0) :=
  ⟨by simp [powerOnTables, undeterminedBank, TableStore.bank, Bank.entryAt],
    fun pos seen f h => ⟨rfl, walkingAt_passes pos seen f h⟩, ⟨⟨-1, 0⟩, by decide⟩, ⟨⟨1000, 151⟩, by decide⟩,
    ⟨⟨1000, 150⟩, rfl, rfl⟩,
    ⟨List.replicate 55 2, ⟨2, 0⟩, ⟨3, 0⟩, by decide, by decide, by decide, by decide⟩,
    ⟨List.replicate 16 50, ⟨50, 0⟩, ⟨49, 0⟩, by decide, by decide, by decide⟩⟩

theorem witness_WalkPassesExactlyTheLoadedBanks : (pinResetTables powerOnTables).walk = .running .pinReset 0 [] := rfl

/-- A Table Store whose commit walk of the shadow has passed every entry, every entry of both banks passing. -/
def walkedThrough : TableStore :=
  { powerOnTables with
    bankA := evenBank ⟨0, 0⟩, bankB := evenBank ⟨1, 0⟩, walk := .running .commit 559 (List.replicate 79 1)
    walkedBank := .bankB }

theorem witness_PassedCommitWalkWaitsOrSwaps :
    (∃ s : State, s.tables = walkedThrough ∧ s.tables.walkedBank = s.tables.shadow ∧ s.regime.mode ≠ .standby ∧
      s.regime.mode ≠ .safe) ∧
    (∃ s : State, s.tables = walkedThrough ∧ s.tables.walkedBank = s.tables.shadow ∧ s.regime.mode = .standby ∧
      ∀ p, p < 79 → (s.tables.bank s.tables.shadow).entryAt p ≠ .failing) := by
  refine ⟨⟨(inMode .hybridShared).setTables walkedThrough, rfl, rfl, by decide, by decide⟩,
    ⟨withTables walkedThrough, rfl, rfl, rfl, fun p hp => ?_⟩⟩
  have : (walkedThrough.bank walkedThrough.shadow).entryAt p = .passing ⟨1, 0⟩ := entryAt_evenBank _ p (by omega)
  simp [withTables, this]

/-- The completion clause of PinResetKeepsContents: a pin-reset walk that has passed every entry. -/
theorem witness_pin_reset_walk_passed :
    ∃ s : State, s.tables.walk = .running .pinReset 559 (List.replicate 79 1) ∧
      s.tables.walkedBank = s.tables.selector ∧ ∀ p, p < 79 → (s.tables.bank s.tables.selector).entryAt p ≠ .failing := by
  refine ⟨withTables { walkedThrough with
    bankA := evenBank ⟨1, 0⟩, walk := .running .pinReset 559 (List.replicate 79 1), walkedBank := .bankA }, rfl, rfl,
    fun p hp h => ?_⟩
  exact nomatch (entryAt_evenBank ⟨1, 0⟩ p (by omega)).symm.trans h

theorem entryAt_failingAt78 (p : Nat) (h : p < 78) :
    ((evenBank ⟨1, 0⟩).setAt 78 .failing).entryAt p = .passing ⟨1, 0⟩ := by
  rw [Bank.entryAt_setAt _ _ _ _ (by omega), if_neg (by omega), entryAt_evenBank _ _ (by omega)]

/-- A walk whose next entry ends it FAILED and one whose next entry is passed; and latches, of a swap in every regime, at
the walk's completion and at a cycle start, and of the pin-reset walk, that meet their last entry failing. -/
theorem witness_FailedWalksAndLatchesAdoptNothing :
    (∃ (s u : State) (f : Failure), s.tables.walk = .running .pinReset 0 [] ∧ exec .walkEntryTest s = .next u ∧
      u.tables.walk = .failed f) ∧
    (∃ (s u : State) (seen : List Int), s.tables.walk = .running .commit 558 (List.replicate 79 1) ∧
      exec .walkEntryTest s = .next u ∧ u.tables.walk = .running .commit 559 seen) ∧
    (∀ m : Mode, ∃ s : State, s.regime.mode = m ∧ s.resetApplied = none ∧ s.split.cycle = none ∧
      s.split.waiting = some .demand ∧ s.tables.walk = .running .commit 559 (List.replicate 79 1) ∧
      s.tables.walkedBank = s.tables.shadow ∧ s.tables.swapPending = true ∧
      (s.tables.bank s.tables.shadow).entryAt 78 = .failing ∧
      ∀ p', p' < 78 → (s.tables.bank s.tables.shadow).entryAt p' ≠ .failing) ∧
    (∃ s : State, s.tables.walk = .running .pinReset 559 (List.replicate 79 1) ∧
      s.tables.walkedBank = s.tables.selector ∧ (s.tables.bank s.tables.selector).entryAt 78 = .failing ∧
      ∀ p', p' < 78 → (s.tables.bank s.tables.selector).entryAt p' ≠ .failing) := by
  have last : ((evenBank ⟨1, 0⟩).setAt 78 .failing).entryAt 78 = .failing :=
    (Bank.entryAt_setAt _ _ _ _ (by decide)).trans (if_pos rfl)
  refine ⟨⟨withTables (pinResetTables powerOnTables), _, ⟨.param, 0, .check⟩, rfl, rfl, ?_⟩,
    ⟨withTables (walkingAt 558 1 ⟨1, 0⟩), _, List.replicate 79 1, rfl, rfl, ?_⟩,
    fun m => ⟨(startWaits (inMode m)).setTables
      { walkedThrough with bankB := (evenBank ⟨1, 0⟩).setAt 78 .failing, swapPending := true }, rfl, rfl, rfl, rfl, rfl,
      rfl, rfl, last, fun p h e => ?_⟩,
    ⟨withTables { walkedThrough with
      bankA := (evenBank ⟨1, 0⟩).setAt 78 .failing, walk := .running .pinReset 559 (List.replicate 79 1)
      walkedBank := .bankA }, rfl, rfl, last, fun p h e => ?_⟩⟩
  · decide +kernel
  · decide +kernel
  · cases (entryAt_failingAt78 p h).symm.trans e
  · cases (entryAt_failingAt78 p h).symm.trans e

theorem witness_CopyCarriesEveryEntry :
    (∃ s : State, s.resetApplied = none ∧ s.tables.copy = some 558) ∧
      (∃ s : State, s.resetApplied = none ∧ s.tables.copy = some 559) :=
  ⟨⟨withTables { powerOnTables with copy := some 558 }, rfl, rfl⟩,
    ⟨withTables { powerOnTables with copy := some 559 }, rfl, rfl⟩⟩

/-! ### Witnesses: the standing properties, at the reset state with a command in its queue -/

/-- The reset state with a command that waits. -/
def queued : State := { State.reset with pending := [.nonDataFrameDiscard .portD .remote] }

theorem defaultWorking_at (p : Nat) : defaultWorking.at p = defaultValues.getD p 0 := by
  unfold WorkingParams.at
  by_cases h : p < 79
  · simp [defaultWorking, h]
    rw [List.getElem?_eq_getElem (by exact h)]; rfl
  · simp [defaultWorking, h]
    have hl : defaultValues.length = 79 := rfl
    rw [List.getElem?_eq_none (by omega)]; rfl

theorem witness_valid_parameters : defaultWorking.Valid := by
  constructor <;> simp only [defaultWorking_at]
  · decide
  · decide
  · decide
  · decide
  · intro i hi
    have : i = 0 := by
      have : defaultValues.getD 13 0 = 2 := by decide
      omega
    subst this; decide
  · intro i hi
    have : i = 0 := by
      have : defaultValues.getD 14 0 = 2 := by decide
      omega
    subst this; decide
  · decide
  · decide
  · intro i j h1 h2 h3
    have : ∀ i < 53, ∀ j < 53, 47 ≤ i → i < j → defaultValues.getD i 0 ≠ defaultValues.getD j 0 := by decide
    exact this i (by omega) j (by omega) h1 h2
  · decide
  · decide
  · decide
  · decide

theorem step_queued : ∃ t, step queued = .next t := ⟨_, rfl⟩

theorem paramsInv_queued : ParamsInv queued :=
  ⟨witness_valid_parameters, fun _ h => absurd (show none = some _ from h) (by simp),
    fun h => absurd h (by decide), fun _ => rfl, fun _ _ _ h => absurd (show Walk.idle = .running _ _ _ from h) (by simp),
    fun h => absurd h (by decide)⟩

theorem witness_StepKeepsWorkingParametersValid : ∃ s t : State, ParamsInv s ∧ step s = .next t :=
  ⟨queued, step_queued.choose, paramsInv_queued, step_queued.choose_spec⟩

theorem streamsInv_queued : StreamsInv queued :=
  ⟨fun r => by cases r <;> exact ⟨by decide, by decide, by decide, by decide⟩, by decide⟩

theorem portsInv_queued : PortsInv queued where
  consistent p := by cases p <;> exact ⟨by decide, by decide, by decide, by decide, by decide, by decide⟩
  notices := by decide
  frames p := by cases p <;> decide
  busOffQueue p := by cases p <;> exact fun _ => rfl
  stands p a h := by cases p <;> cases h
  onBus n h := by cases n <;> cases h
  replies q c d h := by cases q <;> cases h

theorem faultsInv_queued : FaultsInv queued :=
  ⟨by decide, by decide, rfl, fun r => by cases r <;> rfl, by decide⟩

theorem witness_StepKeepsStreamsAndFaultsInStep :
    ∃ s t : State, FaultsInv s ∧ PortsInv s ∧ StreamsInv s ∧ step s = .next t :=
  ⟨queued, step_queued.choose, faultsInv_queued, portsInv_queued, streamsInv_queued, step_queued.choose_spec⟩

theorem storedInRange_queued : StoredInRange queued.intake := by constructor <;> decide

theorem limitsInv_queued : LimitsInv queued where
  records := by
    intro r hr
    simp only [Limits.records, List.mem_cons, List.not_mem_nil, or_false] at hr
    rcases hr with rfl | rfl | rfl | rfl | rfl | rfl | rfl <;> constructor <;> decide
  combined := ⟨by decide, by decide, by decide, by decide⟩
  cycle _ h := absurd (show none = some _ from h) (by simp)

theorem watchEntries_queued (i : Fin 16) (e : WatchEntry) (h : queued.tables.watch[i] = .passing e) :
    e = clearedWatchEntry := by
  have : queued.tables.watch[i] = .passing clearedWatchEntry := by
    simp [queued, State.reset, powerOnTables]
  exact (Checked.passing.inj (this.symm.trans h)).symm

theorem watchEntriesInv_queued : WatchEntriesInv queued :=
  ⟨fun i e h => by rw [watchEntries_queued i e h]; decide, fun i e h => by rw [watchEntries_queued i e h]; decide,
    fun i e h => by rw [watchEntries_queued i e h]; decide⟩

theorem witness_StepKeepsValuesInRange :
    ∃ s t : State, StoredInRange s.intake ∧ LimitsInv s ∧ WatchEntriesInv s ∧ step s = .next t :=
  ⟨queued, step_queued.choose, storedInRange_queued, limitsInv_queued, watchEntriesInv_queued, step_queued.choose_spec⟩

theorem regimeInv_queued : RegimeInv queued := by constructor <;> decide

theorem attemptsInv_queued : AttemptsInv queued :=
  ⟨paramsInv_queued, regimeInv_queued, by decide, by decide, by decide, by decide⟩

theorem witness_StepKeepsRegimeConsistent :
    ∃ s t : State, RegimeInv s ∧ AttemptsInv s ∧ step s = .next t :=
  ⟨queued, step_queued.choose, regimeInv_queued, attemptsInv_queued, step_queued.choose_spec⟩

theorem forwardInv_queued : ForwardInv queued := by
  have h : ∀ i j : Fin 47, i ≠ j → (match defaultForward[i], defaultForward[j] with
      | .passing x, .passing y => x.clashes y
      | _, _ => false) = false := by decide +kernel
  intro i j hij x y hx hy hvx hvy
  have := h i j hij
  rw [show defaultForward[i] = .passing x from hx, show defaultForward[j] = .passing y from hy] at this
  simp only [FwdEntry.clashes, hvx, hvy, Bool.and_self, Bool.true_and, Bool.or_eq_false_iff, decide_eq_false_iff_not,
    Bool.and_eq_false_iff, ne_eq, not_not] at this
  exact this

theorem holdsInv_queued : HoldsInv queued := ⟨fun q => by cases q <;> rfl, nofun⟩

theorem bandInv_queued : BandInv queued := by constructor <;> decide

theorem witness_StepKeepsPortsTablesAndHolds :
    ∃ s t : State, PortsInv s ∧ ForwardInv s ∧ HoldsInv s ∧ BandInv s ∧ step s = .next t :=
  ⟨queued, step_queued.choose, portsInv_queued, forwardInv_queued, holdsInv_queued, bandInv_queued, step_queued.choose_spec⟩

/-! ### Witnesses: Signal Intake -/

/-- A frame each stream accepts, on the identifier of the power-on default forwarding table. -/
def goodFrame : Role → Frame
  | .demand => frameOf 0x110 (wordDemand ⟨600, true, true⟩) (flagsDemand ⟨600, true, true⟩) 15
  | .battery => frameOf 0x180 (wordBattery ⟨1000, 2000, 0, -40, false⟩) (flagsBattery ⟨1000, 2000, 0, -40, false⟩) 0
  | .inverter => frameOf 0x210 (wordInverter ⟨7000, 400, 0, 200, true⟩) (flagsInverter ⟨7000, 400, 0, 200, true⟩) 1
  | .engine => frameOf 0x220 (wordEngine ⟨7000, 0, -400, 150, true, true⟩) (flagsEngine ⟨7000, 0, -400, 150, true, true⟩) 2
  | .clutch => frameOf 0x230 (wordClutch ⟨.locked, true⟩) (flagsClutch ⟨.locked, true⟩) 3
  | .brake => frameOf 0x1A0 (wordBrake ⟨400⟩) 0 4

/-- The port each stream arrives on under the power-on default forwarding table (R172). -/
def portOf : Role → Port
  | .demand | .battery | .brake => .portU
  | .inverter | .engine | .clutch => .portD

theorem witness_classifies (r : Role) : State.reset.Classifies (portOf r) (goodFrame r) :=
  ⟨rfl, by cases r <;> decide, by cases r <;> decide, fun q => by cases r <;> cases q <;> decide⟩

theorem witness_accepts (r : Role) (m : StreamMeta) (h : m = resetStream) : m.Accepts (goodFrame r) := by
  subst h; cases r <;> exact ⟨by decide, by decide, Or.inl rfl⟩

theorem witness_classify (r : Role) : ∃ a, State.reset.tables.classify (portOf r) (goodFrame r).id = (a, some r) ∧
    (a = .consume ∨ a = .consumePass) := by
  cases r
  · exact ⟨.consume, by decide +kernel, .inl rfl⟩
  · exact ⟨.consumePass, by decide +kernel, .inr rfl⟩
  · exact ⟨.consumePass, by decide +kernel, .inr rfl⟩
  · exact ⟨.consumePass, by decide +kernel, .inr rfl⟩
  · exact ⟨.consume, by decide +kernel, .inl rfl⟩
  · exact ⟨.consume, by decide +kernel, .inl rfl⟩

/-- Meets the hypotheses of AcceptedFrameIsStored and AcceptanceFeedsLimitsAndFaults for each of the six streams. -/
theorem witness_AcceptedFrameIsStored (r : Role) : ∃ (p : Port) (a : FwdAction) (f : Frame) (s : State),
    s.Classifies p f ∧ s.tables.classify p f.id = (a, some r) ∧ (a = .consume ∨ a = .consumePass) ∧
      (s.intake.streams.get r).Accepts f :=
  let ⟨a, h⟩ := witness_classify r
  ⟨portOf r, a, goodFrame r, State.reset, witness_classifies r, h.1, h.2, witness_accepts r _ (by cases r <;> rfl)⟩

/-- Meets the hypotheses of AcceptanceFeedsLimitsAndFaults. -/
theorem witness_AcceptanceFeedsLimitsAndFaults (r : Role) : ∃ (p : Port) (a : FwdAction) (f : Frame) (s : State),
    s.Classifies p f ∧ s.tables.classify p f.id = (a, some r) ∧ (a = .consume ∨ a = .consumePass) ∧
      (s.intake.streams.get r).Accepts f := witness_AcceptedFrameIsStored r

/-- A discarded frame for each of the three tests of R28, DEMAND FRESH with counter 15 for the third. -/
theorem witness_DiscardedFrameChangesTheReasonOnly :
    (∃ (f : Frame) (s : State), s.Classifies .portU f ∧ s.tables.classify .portU f.id = (.consume, some .demand) ∧
      f.data.length ≠ 8 ∧ ¬(s.intake.streams.get .demand).Accepts f) ∧
    (∃ (f : Frame) (s : State), s.Classifies .portU f ∧ s.tables.classify .portU f.id = (.consumePass, some .battery) ∧
      f.data.length = 8 ∧ f.data.getD 7 0 ≠ checkByte f.id (f.data.take 7) ∧
      ¬(s.intake.streams.get .battery).Accepts f) ∧
    (∃ (f : Frame) (s : State), s.Classifies .portU f ∧ s.tables.classify .portU f.id = (.consume, some .demand) ∧
      f.data.length = 8 ∧ f.data.getD 7 0 = checkByte f.id (f.data.take 7) ∧
      ¬(s.intake.streams.get .demand).Accepts f) :=
  ⟨⟨⟨0x110, List.replicate 7 0⟩, State.reset, ⟨rfl, by decide, by decide, fun q => by cases q <;> decide⟩, by decide +kernel, by decide,
      fun h => absurd h.length (by decide)⟩,
    ⟨⟨0x180, List.replicate 8 0⟩, State.reset, ⟨rfl, by decide, by decide, fun q => by cases q <;> decide⟩, by decide +kernel, by decide,
      by decide, fun h => absurd h.check (by decide)⟩,
    ⟨goodFrame .demand, withStream .demand ⟨.fresh, some 15, .running 30, .stopped, .none, false⟩,
      ⟨rfl, by decide, by decide, fun q => by cases q <;> decide⟩, by decide +kernel, by decide, by decide,
      fun h => absurd h.fresh (by decide)⟩⟩

theorem witness_StreamExpiriesFollowTheStates :
    (∃ s : State, s.resetApplied = none ∧ (s.intake.streams.get .demand).deadline.isRunning = true ∧
      0 < s.tables.wp.holdOf .demand) ∧
    (∃ s : State, s.resetApplied = none ∧ (s.intake.streams.get .brake).deadline.isRunning = true ∧
      0 < s.tables.wp.holdOf .brake) ∧
    (∃ s : State, s.resetApplied = none ∧ (s.intake.streams.get .engine).hold.isRunning = true) ∧
    (∃ s : State, s.resetApplied = none ∧ (s.intake.streams.get .demand).deadline.isRunning = true ∧
      s.tables.wp.holdOf .demand ≤ 0) ∧
    (∃ s : State, s.resetApplied = none ∧ s.intake.fillIn.isRunning = true) :=
  ⟨⟨withStream .demand ⟨.fresh, some 1, .running 30, .stopped, .none, false⟩, rfl, rfl, by decide⟩,
    ⟨withStream .brake ⟨.fresh, some 1, .running 60, .stopped, .none, false⟩, rfl, rfl, by decide⟩,
    ⟨withStream .engine ⟨.held, some 1, .stopped, .running 50, .none, false⟩, rfl, rfl⟩,
    ⟨(withStream .demand ⟨.fresh, some 1, .running 30, .stopped, .none, false⟩).setTables
        { powerOnTables with wp := ⟨defaultWorking.values.set 35 0⟩ }, rfl, rfl, by decide⟩,
    ⟨State.reset.setIntake { State.reset.intake with fillIn := .running 10 }, rfl, rfl⟩⟩

theorem witness_StreamDecodingInvertsTheLayout :
    ∃ x : Intake, StoredInRange x ∧ x.demand.torque = -600 ∧ x.battery.temp = 100 ∧ x.engine.drag = -400 := by
  refine ⟨{ resetIntake with
    demand := ⟨-600, true, false⟩, battery := ⟨1000, 0, 2000, 100, true⟩
    engine := ⟨7000, 400, -400, -40, false, true⟩ }, ?_, rfl, rfl, rfl⟩
  constructor <;> decide

/-! ### Witnesses: Limit Vector Unit and Split Engine -/

theorem witness_BatteryLanesFollowPowerAndSpeed :
    defaultWorking.etaMot = 920 ∧ defaultWorking.etaGen = 900 ∧
      (∃ v : BatteryVals, v.pDis = 1000 ∧ v.pChg = 1000) ∧ (500 : Int) ≤ 500 :=
  ⟨by decide, by decide, ⟨⟨0, 1000, 1000, 0, true⟩, rfl, rfl⟩, by decide⟩

theorem limitsInv_of_reset (s : State) (hl : s.limits = resetLimits) (hc : s.split.cycle = none) : LimitsInv s where
  records := by rw [hl]; exact limitsInv_queued.records
  combined := by rw [hl]; exact limitsInv_queued.combined
  cycle c h := absurd (hc.symm.trans h) (by simp)

/-- The records of the combination; and a start in a state whose limits lie in their ranges, with no lane forced and with
the engine and both motor lanes forced. -/
theorem witness_LimitVectorIsFormedAtTheCycleStart :
    (∃ x : Limits, (∀ r ∈ x.records, r.InRange) ∧ x.static.engHi.isSome = true ∧ x.static.engLo.isSome = true ∧
      x.static.motHi.isSome = true ∧ x.static.motLo.isSome = true) ∧
    (∃ s : State, s.resetApplied = none ∧ s.split.cycle = none ∧ s.split.waiting = some .demand ∧
      s.tables.swapPending = false ∧ LimitsInv s) ∧
    (∃ s : State, s.resetApplied = none ∧ s.split.cycle = none ∧ s.split.waiting = some .demand ∧ LimitsInv s ∧
      s.faults.sources[(0 : Fin 12)].state ≠ .clear ∧
      (s.tables.readFaultEntry (0 : Fin 12)).forced = ⟨true, true, true, true⟩) :=
  ⟨⟨resetLimits, limitsInv_queued.records, rfl, rfl, rfl, rfl⟩,
    ⟨startWaits State.reset, rfl, rfl, rfl, rfl, limitsInv_of_reset _ rfl rfl⟩,
    ⟨startWaits (withFault 0), rfl, rfl, rfl, limitsInv_of_reset _ rfl rfl, by decide, by decide⟩⟩

/-- Meets the hypotheses of every statement about a cycle start: no reset, no cycle under way, a start that waits; with
no cycle started since the reset in a state of the invariant, and with one started. -/
theorem witness_CycleStartFixesTheInputs :
    (∃ s : State, s.resetApplied = none ∧ s.split.cycle = none ∧ s.split.waiting = some .demand ∧
      s.tables.swapPending = false ∧ s.split.started = false ∧ RegimeInv s) ∧
    (∃ s : State, s.resetApplied = none ∧ s.split.cycle = none ∧ s.split.waiting = some .demand ∧
      s.split.started = true) :=
  ⟨⟨startWaits State.reset, rfl, rfl, rfl, rfl, rfl, by constructor <;> decide⟩, ⟨readyToLeave true, rfl, rfl, rfl, rfl⟩⟩

/-- A Table Store with a swap pending whose shadow passes every check. -/
def swapWaits : TableStore := { walkedThrough with walk := .passed, swapPending := true }

theorem shadow_of_swapWaits (p : Nat) (h : p < 79) : (swapWaits.bank swapWaits.shadow).entryAt p ≠ .failing := by
  have : (swapWaits.bank swapWaits.shadow).entryAt p = .passing ⟨1, 0⟩ := entryAt_evenBank _ p (by omega)
  simp [this]

/-- Both outcomes of the boundary test have a state: a start in CRANK with READY set, and one in STANDBY. -/
theorem witness_PendingSwapWaitsForItsBoundary :
    (∃ s : State, s.resetApplied = none ∧ s.split.cycle = none ∧ s.split.waiting = some .demand ∧
      s.tables.swapPending = true ∧ (∀ p, p < 79 → (s.tables.bank s.tables.shadow).entryAt p ≠ .failing) ∧
      s.settle.regime.mode.regime = .crank) ∧
    (∃ s : State, s.resetApplied = none ∧ s.split.cycle = none ∧ s.split.waiting = some .demand ∧
      s.tables.swapPending = true ∧ (∀ p, p < 79 → (s.tables.bank s.tables.shadow).entryAt p ≠ .failing) ∧
      s.settle.regime.mode.regime = .standby) :=
  ⟨⟨((startWaits (inMode .crankStarter)).setTables swapWaits).setIntake
      { resetIntake with
        demand := ⟨0, true, false⟩
        streams := resetIntake.streams.set .demand ⟨.fresh, some 0, .running 30, .stopped, .none, false⟩ },
      rfl, rfl, rfl, rfl, shadow_of_swapWaits, by decide +kernel⟩,
    ⟨(startWaits State.reset).setTables swapWaits, rfl, rfl, rfl, rfl, shadow_of_swapWaits, by decide +kernel⟩⟩

/-- The widest lanes of R48. -/
def wideLanes : Lanes := ⟨400, -400, 400, -400⟩

theorem wideLanes_inRange : wideLanes.InRange := ⟨by decide, by decide, by decide, by decide⟩

/-- Meets the hypotheses of every statement about a cycle completion, in each form of the computation. -/
theorem witness_CycleCompletionStoresTheRecord (m : Mode) :
    ∃ (s : State) (cyc : CycleInputs), s.resetApplied = none ∧ s.split.cycle = some cyc ∧ cyc.mode = m ∧
      cyc.lanes.InRange ∧ ∃ t, exec .splitCycleCompletion s = .next t :=
  ⟨cycling State.reset { someCycle with mode := m, lanes := wideLanes }, _, rfl, rfl, rfl,
    wideLanes_inRange, _, rfl⟩

theorem witness_EmittedTorquesRespectLanesAndSlew :
    ∃ (s t : State) (cyc : CycleInputs), s.resetApplied = none ∧ s.split.cycle = some cyc ∧ cyc.lanes.InRange ∧
      exec .splitCycleCompletion s = .next t ∧ cyc.mode = .hybridShared ∧
      max cyc.lanes.engLo (s.split.prev - cyc.wp.engStep) ≤ min cyc.lanes.engHi (s.split.prev + cyc.wp.engStep) :=
  ⟨cycling State.reset { someCycle with mode := .hybridShared, lanes := wideLanes }, _, _, rfl, rfl,
    wideLanes_inRange, rfl, rfl, by decide⟩

theorem witness_CommandsFollowTheRegimeTable (m : Mode) :
    ∃ (s t : State) (cyc : CycleInputs), s.resetApplied = none ∧ s.split.cycle = some cyc ∧ cyc.mode = m ∧
      exec .splitCycleCompletion s = .next t :=
  ⟨cycling State.reset { someCycle with mode := m }, _, _, rfl, rfl, rfl, rfl⟩

/-- The hypotheses of the clauses of band selection on a cycle (the clause on a completion has those of
CycleCompletionStoresTheRecord), at the thresholds and at the values where they meet. -/
theorem witness_BandSelectionFollowsTheThresholds :
    ∃ cyc : Int → CycleInputs, (∀ x, (cyc x).recompute = false ∧ (cyc x).wp.Valid ∧ (cyc x).soc = x ∧
        (cyc x).wp = State.reset.tables.wp) ∧
      (cyc 0).wp.at 77 + (cyc 0).wp.bandHyst = 520 ∧ (cyc 0).wp.at 77 - (cyc 0).wp.bandHyst = 480 :=
  ⟨fun x => { someCycle with recompute := false, soc := x }, fun _ => ⟨rfl, witness_valid_parameters, rfl, rfl⟩,
    by decide, by decide⟩

theorem witness_band_recompute : ∃ cyc : CycleInputs, cyc.recompute = true := ⟨someCycle, rfl⟩

/-- The power-on axis of two breakpoints with values below, at and between them and at the last one; a position at each
end of an interval with corners at both bounds; and a bank whose cells all fail. -/
theorem witness_InterpolationOfTheFourCorners :
    (∃ bp : Nat → Int, (∀ i, i + 1 < 2 → bp i < bp (i + 1)) ∧ (-1 : Int) < bp 0 ∧ bp 0 ≤ 0 ∧ (6999 : Int) < bp 1 ∧
      bp (2 - 1) ≤ 7000) ∧
    (∃ x y : AxisPos, 0 < x.width ∧ x.offset = 0 ∧ 0 < y.width ∧ y.offset = y.width) ∧
    (∃ (bank : Bank) (d : Int), 0 < d ∧ ∀ band i j, bank.read (mapOf band) (i * 10 + j) = .failing) :=
  ⟨⟨fun i => if i = 1 then 7000 else 0, fun i h => by have : i = 0 := by omega
                                                      subst this; decide, by decide, by decide, by decide, by decide⟩,
    ⟨⟨0, 0, 7000⟩, ⟨0, 600, 600⟩, by decide, rfl, by decide, rfl⟩,
    ⟨undeterminedBank, 1, by decide, fun band i j => by
      by_cases h : (mapOf band).base + (i * 10 + j) < 559
      · simp [Bank.read, Bank.entryAt, undeterminedBank, h]
      · exact Bank.entryAt_of_le _ _ (by omega)⟩⟩

/-- A cycle under way in every regime and phase. -/
theorem witness_TorquesFollowTheForms (m : Mode) :
    ∃ (s : State) (cyc : CycleInputs), s.resetApplied = none ∧ s.split.cycle = some cyc ∧ cyc.mode = m :=
  ⟨cycling State.reset { someCycle with mode := m }, _, rfl, rfl, rfl⟩

/-- A cycle for each case of the engine-wanted flag, at the bounds of the cases. -/
theorem witness_EngineWantedFollowsTheCases :
    ∃ cyc : CycleInputs, cyc.inhibit = false ∧ cyc.zone = false ∧ cyc.hold = false ∧ cyc.wp.socFloor = cyc.soc ∧
      cyc.wp.eOn ≤ 50 ∧ ¬ cyc.wp.eOn ≤ 49 ∧ ¬ 20 < cyc.wp.eOff :=
  ⟨{ someCycle with zone := false, soc := 250 }, by decide, by decide, by decide, by decide, by decide, by decide,
    by decide⟩

theorem witness_engine_wanted_prohibited :
    (∃ cyc : CycleInputs, cyc.inhibit = true) ∧
      (∃ cyc : CycleInputs, cyc.zone = true ∧ cyc.wp.socZoneFloor ≤ cyc.soc) ∧
      (∃ cyc : CycleInputs, cyc.inhibit = false ∧ cyc.zone = true ∧ cyc.soc < cyc.wp.socZoneFloor ∧
        cyc.soc < cyc.wp.socFloor) ∧
      (∃ cyc : CycleInputs, cyc.inhibit = false ∧ cyc.zone = false ∧ cyc.hold = true) :=
  ⟨⟨{ someCycle with inhibit := true }, rfl⟩, ⟨{ someCycle with zone := true, soc := 120 }, rfl, by decide⟩,
    ⟨{ someCycle with zone := true, soc := 119 }, by decide, rfl, by decide, by decide⟩,
    ⟨{ someCycle with zone := false, hold := true }, by decide, rfl, rfl⟩⟩

/-! ### Witnesses: the Regime Controller -/

/-- A start that waits in a regime, with a source ACTIVE or none. -/
def startIn (m : Mode) (active : Option (Fin 12)) : State :=
  let s := startWaits (inMode m)
  match active with
  | none => s
  | some i => s.raiseFault i

theorem witness_SafeIsEnteredAndLeftAtCycleStarts :
    (∃ s : State, s.resetApplied = none ∧ s.split.cycle = none ∧ s.split.waiting = some .demand ∧
      s.consequence = .safe ∧ s.regime.mode = .hybridShared) ∧
    (∃ s : State, s.resetApplied = none ∧ s.split.cycle = none ∧ s.split.waiting = some .demand ∧
      s.consequence = .safe ∧ s.regime.mode = .standby) ∧
    (∃ s : State, s.resetApplied = none ∧ s.split.cycle = none ∧ s.split.waiting = some .demand ∧
      s.consequence = .none ∧ s.regime.mode = .safe ∧ s.intake.streams.demand.state = .never ∧
      s.intake.demand.ready = false) :=
  ⟨⟨startIn .hybridShared (some 0), rfl, rfl, rfl, by decide +kernel, rfl⟩,
    ⟨startIn .standby (some 11), rfl, rfl, rfl, by decide +kernel, rfl⟩,
    ⟨startIn .safe none, rfl, rfl, rfl, by decide +kernel, rfl, rfl, rfl⟩⟩

/-- A Signal Intake with every stream FRESH and READY set. -/
def allFresh : Intake :=
  let m : StreamMeta := ⟨.fresh, some 0, .running 30, .stopped, .none, false⟩
  { resetIntake with streams := ⟨m, m, m, m, m, m⟩, demand := ⟨100, true, false⟩ }

/-- Whether a source in ACTIVE or AWAIT_ACK gives a consequence. -/
def givesCons (s : State) (c : Consequence) : Prop := ∃ i : Fin 12,
  (s.faults.sources[i].state = .active ∨ s.faults.sources[i].state = .awaitAck) ∧
    (s.tables.readFaultEntry i).consequence = c

/-- Whether a source in ACTIVE or AWAIT_ACK has CLUTCH_LOCK in its forced set. -/
def givesLock (s : State) : Prop := ∃ i : Fin 12,
  (s.faults.sources[i].state = .active ∨ s.faults.sources[i].state = .awaitAck) ∧
    (s.tables.readFaultEntry i).forced.clutchLock = true

/-- The reset state with sources raised, and each FAULT_MAP entry of a list failing. -/
def faulting (sources struck : List (Fin 12)) : State :=
  sources.foldl State.raiseFault
    (withTables { powerOnTables with faultMap := struck.foldl (fun v (i : Fin 12) => v.set i .failing) powerOnTables.faultMap })

/-- A Table Store whose fault map forces the clutch lane by source 1 with no consequence. -/
def lockForcing : TableStore :=
  { powerOnTables with faultMap := powerOnTables.faultMap.set 1 (.passing ⟨⟨false, false, false, true⟩, .none, .auto⟩) }

/-- The fault unit of the reset state with a source raised. -/
def raised (i : Fin 12) : FaultUnit := (withFault i).faults

/-- STANDBY with every condition to leave it met, for each regime it leads to, and with none but some met; and a state
for each case of the combined consequence, two of them with a failing fault-map entry, one with a source in AWAIT_ACK. -/
theorem witness_StandbyIsLeftExactlyWhenAllowed :
    ((∃ s, givesCons s .safe) ∧ (∃ s, givesCons s .limpEngine ∧ givesCons s .limpMotor) ∧
      (∃ s, ¬givesCons s .safe ∧ ¬givesCons s .limpMotor ∧ givesCons s .limpEngine ∧ givesLock s) ∧
      (∃ s, ¬givesCons s .safe ∧ givesCons s .limpEngine ∧ ¬givesCons s .limpMotor ∧ ¬givesLock s) ∧
      (∃ s, ¬givesCons s .safe ∧ ¬givesCons s .limpEngine ∧ givesCons s .limpMotor ∧
        s.faults.sources[(10 : Fin 12)].state = .awaitAck) ∧
      (∃ s, ¬givesCons s .safe ∧ ¬givesCons s .limpEngine ∧ ¬givesCons s .limpMotor)) ∧
    (∃ s : State, s.resetApplied = none ∧ s.split.cycle = none ∧ s.split.waiting = some .demand ∧
      s.regime.mode = .standby ∧ s.mayLeaveStandby = true ∧ s.consequence = .none) ∧
    (∃ s : State, s.resetApplied = none ∧ s.split.cycle = none ∧ s.split.waiting = some .demand ∧
      s.regime.mode = .standby ∧ s.mayLeaveStandby = true ∧ s.consequence = .limpEngine) ∧
    (∃ s : State, s.resetApplied = none ∧ s.split.cycle = none ∧ s.split.waiting = some .demand ∧
      s.regime.mode = .standby ∧ s.mayLeaveStandby = true ∧ s.consequence = .limpMotor) ∧
    (∃ s : State, s.resetApplied = none ∧ s.split.cycle = none ∧ s.split.waiting = some .demand ∧
      s.regime.mode = .standby ∧ s.split.started = false ∧ s.mayLeaveStandby = false) ∧
    (∃ s : State, s.resetApplied = none ∧ s.split.cycle = none ∧ s.split.waiting = some .demand ∧
      s.regime.mode = .standby ∧ s.split.started = true ∧ s.mayLeaveStandby = false) := by
  refine ⟨⟨⟨faulting [11] [11], ?_⟩, ⟨faulting [6, 7] [], ?_⟩,
      ⟨(faulting [6, 1] []).setTables lockForcing, ?_⟩, ⟨faulting [8, 5] [8], ?_⟩,
      ⟨(faulting [10] []).removeFault 10, ?_⟩, ⟨faulting [1, 5] [], ?_⟩⟩,
    ⟨readyToLeave true, rfl, rfl, rfl, rfl, ?_, ?_⟩, ⟨(readyToLeave true).raiseFault 8, rfl, rfl, rfl, rfl, ?_, ?_⟩,
    ⟨(readyToLeave true).raiseFault 10, rfl, rfl, rfl, rfl, ?_, ?_⟩, ⟨readyToLeave false, rfl, rfl, rfl, rfl, rfl, ?_⟩,
    ⟨(readyToLeave true).setTables powerOnTables, rfl, rfl, rfl, rfl, rfl, ?_⟩⟩ <;>
    first
    | decide +kernel
    | (simp only [givesCons, givesLock]; decide +kernel)

/-- A Signal Intake with every stream FRESH but ENGINE, which may be LAPSED, and what a cycle start reads of it. -/
def driving (ready lapsed running : Bool) (speed : Int) (clutch : ClutchState) : Intake :=
  let m : StreamMeta := ⟨.fresh, some 0, .running 30, .stopped, .none, false⟩
  { resetIntake with
    streams := ⟨m, m, m, if lapsed then ⟨.lapsed, some 0, .stopped, .stopped, .none, true⟩ else m, m, m⟩
    demand := ⟨100, ready, false⟩, inverter := { resetIntake.inverter with speed := speed }
    engine := { resetIntake.engine with running := running }, clutch := ⟨clutch, false⟩ }

/-- A start that waits in a regime state, with the sources of a fault unit and given effective inputs. -/
def settling (fs : FaultUnit) (r : RegimeState) (x : Intake) : State :=
  { startWaits State.reset with tables := lockForcing, faults := fs, regime := r, intake := x }

theorem settling_consequence (fs : FaultUnit) (r : RegimeState) (x : Intake) :
    (settling fs r x).consequence = (settling fs State.reset.regime resetIntake).consequence := rfl

theorem settling_lockReading (fs : FaultUnit) (r : RegimeState) (x : Intake) :
    (settling fs r x).lockReading = (settling fs State.reset.regime resetIntake).lockReading := rfl

/-- Every clause: each regime, READY clear and set, each consequence but SAFE, the CLUTCH_LOCK reading clear and set,
the shaft speed below and at the two limits (849, 850, 899 and 900 rpm), ENGINE FRESH and LAPSED, the engine running and
not, each clutch state. -/
theorem witness_ReadyAndLimpAreSettledAtCycleStarts (m : Mode) (ready lapsed running : Bool) (speed : Int)
    (clutch : ClutchState) (cons : Consequence) (lock : Bool) (hc : cons ≠ .safe) (hl : lock = true → cons = .none) :
    ∃ s : State, s.resetApplied = none ∧ s.split.cycle = none ∧ s.split.waiting = some .demand ∧
      s.consequence = cons ∧ s.lockReading = lock ∧ s.regime.mode = m ∧
      (∀ r : Role, (s.intake.streams.get r).state = if r = .engine ∧ lapsed = true then .lapsed else .fresh) ∧
      s.intake.demand.ready = ready ∧ s.intake.inverter.speed = speed ∧ s.intake.clutch.state = clutch ∧
      s.intake.engine.running = running ∧ s.tables.wp.unlockSpeed = 850 ∧ s.tables.wp.lockSpeedMin = 900 := by
  have h : ∃ fs : FaultUnit, (settling fs State.reset.regime resetIntake).consequence = cons ∧
      (settling fs State.reset.regime resetIntake).lockReading = lock := by
    cases lock
    · cases cons
      · exact ⟨State.reset.faults, by decide +kernel, by decide +kernel⟩
      · exact ⟨raised 8, by decide +kernel, by decide +kernel⟩
      · exact ⟨raised 10, by decide +kernel, by decide +kernel⟩
      · exact absurd rfl hc
    · rw [hl rfl]; exact ⟨raised 1, by decide +kernel, by decide +kernel⟩
  obtain ⟨fs, h1, h2⟩ := h
  exact ⟨settling fs { State.reset.regime with mode := m } (driving ready lapsed running speed clutch), rfl, rfl, rfl,
    (settling_consequence ..).trans h1, (settling_lockReading ..).trans h2, rfl,
    fun r => by cases r <;> cases lapsed <;> rfl, rfl, rfl, rfl, rfl, rfl, rfl⟩

/-- Every clause: each regime, the CLUTCH_LOCK reading clear and set, the shaft speed on both sides of the two limits,
ENGINE FRESH and LAPSED. -/
theorem witness_LockSpeedAndStallAreSettledAtCycleStarts (m : Mode) (lapsed lock : Bool) (speed : Int) :
    ∃ s : State, s.resetApplied = none ∧ s.split.cycle = none ∧ s.split.waiting = some .demand ∧
      s.consequence = .none ∧
      (∀ r : Role, (s.intake.streams.get r).state = if r = .engine ∧ lapsed = true then .lapsed else .fresh) ∧
      s.intake.demand.ready = true ∧ s.lockReading = lock ∧ s.regime.mode = m ∧ s.intake.inverter.speed = speed := by
  obtain ⟨s, h1, h2, h3, h4, h5, h6, h7, h8, h9, -⟩ :=
    witness_ReadyAndLimpAreSettledAtCycleStarts m true lapsed true speed .locked .none lock (by decide) (fun _ => rfl)
  exact ⟨s, h1, h2, h3, h4, h7, h8, h5, h6, h9⟩

/-- A start under the reading, and the cycle it fixes still under way after a reception that came between. -/
theorem witness_LockIsNeverCommandedUnderTheLockReading :
    ∃ (s t u : State) (fixed : CycleInputs), s.resetApplied = none ∧ s.split.cycle = none ∧
      s.split.waiting = some .demand ∧ s.lockReading = true ∧ exec .splitCycleStart s = .next t ∧
      t.split.cycle = some fixed ∧ exec (.nonDataFrameDiscard .portU .remote) t = .next u ∧ u.resetApplied = none ∧
      u.split.cycle = some fixed :=
  ⟨startIn .hybridShared (some 9), (startIn .hybridShared (some 9)).startCycle .demand, _, _, rfl, rfl, rfl,
    by decide +kernel, rfl, rfl, rfl, rfl, rfl⟩

/-- A cycle whose completion finds the engine wanted (ENGINE_HOLD outside the zero-emission zone), and one that does
not. -/
def wantedCycle (m : Mode) (wanted : Bool) : CycleInputs :=
  { someCycle with mode := m, zone := false, inhibit := false, hold := wanted, soc := 500, torque := 0, lanes := wideLanes }

/-- Every clause: a completion in every regime state (its counts at 4 and at 255 under `on_dwell` 5, at 98 and 99 under
`off_dwell` 100, its min-run state, its timers and destination anything) and a cycle fixed in every regime, that finds the
engine wanted or not. -/
theorem witness_CompletionTestsFollowTheRegime (r : RegimeState) (m : Mode) (wanted : Bool) :
    ∃ (s t : State) (cyc : CycleInputs), s.resetApplied = none ∧ s.split.cycle = some cyc ∧ cyc.mode = m ∧
      s.regime = r ∧ s.intake.streams.engine.state = .fresh ∧ s.faults.sources[srcCrankFail].state = .clear ∧
      s.lockReading = false ∧ s.tables.wp.onDwell = 5 ∧ s.tables.wp.offDwell = 100 ∧
      exec .splitCycleCompletion s = .next t ∧ t.split.prevWanted = wanted := by
  let s := ((cycling State.reset (wantedCycle m wanted)).setRegime r).setIntake allFresh
  refine ⟨s, s.completeCycle (wantedCycle m wanted), wantedCycle m wanted, rfl, rfl, rfl, rfl, rfl, ?_, ?_, ?_, ?_,
    exec_splitCycleCompletion rfl rfl, ?_⟩
  · show State.reset.faults.sources[srcCrankFail].state = .clear; decide
  · show State.reset.lockReading = false; decide +kernel
  · show defaultWorking.onDwell = 5; decide
  · show defaultWorking.offDwell = 100; decide
  · rw [State.completeCycle_split]
    show (computeCycle powerOnTables (cycling State.reset (wantedCycle m wanted)).split (wantedCycle m wanted)).wanted = _
    cases wanted <;> cases m <;> decide +kernel

/-- RAMP_DOWN with an engine torque that has reached 0, and with one that has not. -/
theorem witness_ramp_down_engine_torque :
    (∃ (s t : State) (cyc : CycleInputs), s.resetApplied = none ∧ s.split.cycle = some cyc ∧
      s.regime.mode = .releaseRampDown ∧ cyc.mode = .releaseRampDown ∧ exec .splitCycleCompletion s = .next t ∧
      t.split.history.newest.engineCmd = 0) ∧
    (∃ (s t : State) (cyc : CycleInputs), s.resetApplied = none ∧ s.split.cycle = some cyc ∧
      s.regime.mode = .releaseRampDown ∧ cyc.mode = .releaseRampDown ∧ exec .splitCycleCompletion s = .next t ∧
      t.split.history.newest.engineCmd ≠ 0) := by
  refine ⟨⟨cycling (inMode .releaseRampDown) (wantedCycle .releaseRampDown false), _, _, rfl, rfl, rfl, rfl, rfl, ?_⟩,
    ⟨cycling ((inMode .releaseRampDown).setSplit { State.reset.split with prev := 11 })
      (wantedCycle .releaseRampDown false), _, _, rfl, rfl, rfl, rfl, rfl, ?_⟩⟩ <;> decide +kernel

/-- An ENGINE report of a speed, and a CLUTCH report. -/
def engineFrame (speed : Int) (running : Bool) : Frame :=
  frameOf 0x220 (wordEngine ⟨speed, 0, 0, 90, running, false⟩) (flagsEngine ⟨speed, 0, 0, 90, running, false⟩) 2
def clutchFrame (c : ClutchState) : Frame := frameOf 0x230 (wordClutch ⟨c, false⟩) (flagsClutch ⟨c, false⟩) 3

/-- The frames that CLUTCH and ENGINE accept are classified whatever the regime state. -/
theorem offered_in (r : RegimeState) (f : Frame) (h : State.reset.Classifies .portD f) :
    (State.reset.setRegime r).Classifies .portD f := ⟨rfl, h.online, h.size, h.plain⟩

/-- In every regime state: an ENGINE report that confirms at `idle_confirm` 700, one of 699 that does not, one inside
`sync_window` 50 of a shaft at rest and one outside it, one with the running flag clear; and a CLUTCH report of each
state. -/
theorem witness_ReportsMoveTheRegime (r : RegimeState) :
    (∀ x ∈ [((700 : Int), true), (699, true), (50, true), (51, true), (0, false)], ∃ (f : Frame) (s : State),
      s.Classifies .portD f ∧ s.tables.classify .portD f.id = (.consumePass, some .engine) ∧
      (s.intake.streams.get .engine).Accepts f ∧ s.regime = r ∧ s.lockReading = false ∧
      s.intake.streams.inverter.state = .never ∧ (decodeEngine f.data).speed = x.1 ∧ (decodeEngine f.data).running = x.2) ∧
    (∀ c ∈ [ClutchState.isOpen, .slipping, .locked], ∃ (f : Frame) (s : State), s.Classifies .portD f ∧
      s.tables.classify .portD f.id = (.consume, some .clutch) ∧ (s.intake.streams.get .clutch).Accepts f ∧
      s.regime = r ∧ (decodeClutch f.data).state = c) := by
  have lock : (State.reset.setRegime r).lockReading = false := by
    show State.reset.lockReading = false; decide +kernel
  have engineRole : State.reset.tables.classify .portD 0x220 = (.consumePass, some .engine) := by decide +kernel
  have clutchRole : State.reset.tables.classify .portD 0x230 = (.consume, some .clutch) := by decide +kernel
  constructor
  · intro x hx
    simp only [List.mem_cons, List.not_mem_nil, or_false] at hx
    have h : State.reset.Classifies .portD (engineFrame x.1 x.2) ∧
        StreamMeta.Accepts resetStream (engineFrame x.1 x.2) ∧
        (decodeEngine (engineFrame x.1 x.2).data).speed = x.1 ∧
        (decodeEngine (engineFrame x.1 x.2).data).running = x.2 := by
      rcases hx with rfl | rfl | rfl | rfl | rfl <;>
        exact ⟨⟨rfl, by decide, by decide, fun q => by cases q <;> decide⟩, ⟨by decide, by decide, .inl rfl⟩, by decide,
          by decide⟩
    exact ⟨engineFrame x.1 x.2, State.reset.setRegime r, offered_in r _ h.1, engineRole, h.2.1, rfl, lock, rfl, h.2.2⟩
  · intro c hc
    simp only [List.mem_cons, List.not_mem_nil, or_false] at hc
    have h : State.reset.Classifies .portD (clutchFrame c) ∧ StreamMeta.Accepts resetStream (clutchFrame c) ∧
        (decodeClutch (clutchFrame c).data).state = c := by
      rcases hc with rfl | rfl | rfl <;>
        exact ⟨⟨rfl, by decide, by decide, fun q => by cases q <;> decide⟩, ⟨by decide, by decide, .inl rfl⟩, by decide⟩
    exact ⟨clutchFrame c, State.reset.setRegime r, offered_in r _ h.1, clutchRole, h.2.1, rfl, h.2.2⟩

theorem witness_RegimeTimerExpiries :
    (∃ s : State, s.resetApplied = none ∧ s.regime.crankT.isRunning = true ∧ s.regime.mode.regime = .crank ∧
      ((s.regime.attempts + 1 : Nat) : Int) = s.tables.wp.crankAttemptsMax ∧
      s.faults.sources[srcCrankFail] = ⟨.clear, false, false⟩) ∧
    (∃ s : State, s.resetApplied = none ∧ s.regime.crankT.isRunning = true ∧ s.regime.mode.regime = .crank ∧
      ((s.regime.attempts + 1 : Nat) : Int) ≠ s.tables.wp.crankAttemptsMax) ∧
    (∃ s : State, s.resetApplied = none ∧ s.regime.crankT.isRunning = true ∧ s.regime.mode = .limpEngineStart) ∧
    (∃ s : State, s.resetApplied = none ∧ s.regime.syncT.isRunning = true ∧ s.regime.mode = .syncMatch) ∧
    (∃ s : State, s.resetApplied = none ∧ s.regime.clutchT.isRunning = true ∧ s.regime.mode = .hybridLocking) ∧
    (∃ s : State, s.resetApplied = none ∧ s.regime.clutchT.isRunning = true ∧ s.regime.mode = .releaseOpening) ∧
    (∃ s : State, s.resetApplied = none ∧ s.regime.retryT.isRunning = true) ∧
    (∃ s : State, s.resetApplied = none ∧ s.regime.minRun = .running 4000) :=
  ⟨⟨State.reset.setRegime { State.reset.regime with mode := .crankClutch, crankT := .running 1200, attempts := 2 }, rfl,
      rfl, rfl, by decide, by decide⟩,
    ⟨State.reset.setRegime { State.reset.regime with mode := .crankStarter, crankT := .running 1200 }, rfl, rfl, rfl,
      by decide⟩,
    ⟨State.reset.setRegime { State.reset.regime with mode := .limpEngineStart, crankT := .running 1200 }, rfl, rfl, rfl⟩,
    ⟨State.reset.setRegime { State.reset.regime with mode := .syncMatch, syncT := .running 800 }, rfl, rfl, rfl⟩,
    ⟨State.reset.setRegime { State.reset.regime with mode := .hybridLocking, clutchT := .running 300 }, rfl, rfl, rfl⟩,
    ⟨State.reset.setRegime { State.reset.regime with mode := .releaseOpening, clutchT := .running 300 }, rfl, rfl, rfl⟩,
    ⟨State.reset.setRegime { State.reset.regime with mode := .electric, retryT := .running 2000 }, rfl, rfl⟩,
    ⟨State.reset.setRegime { State.reset.regime with mode := .hybridShared, minRun := .running 4000 }, rfl, rfl⟩⟩

/-! ### Witnesses: the Watch Unit -/

/-- A watch entry that notifies when the motor temperature reaches 90 in every regime (section 10.10's entry 7). -/
def motorWatch : WatchEntry := ⟨true, .motorTemp, .above, 90, 10, 511, .notify, 0⟩

/-- The Watch Unit with every watch in one state. -/
def watchesIn (st : WatchState) (fired : Bool) (queue : List QueuedNotice) : WatchUnit :=
  ⟨Vector.replicate 16 ⟨st, fired⟩, queue, false⟩

/-- A Table Store with that entry at index 15. -/
def motorWatched : TableStore := { powerOnTables with watch := powerOnTables.watch.set 15 (.passing motorWatch) }

/-- An evaluation that finds each state, true at 90, past hysteresis at 79 and between at 80. -/
theorem witness_EvaluationMovesTheWatch (st : WatchState) (v : Int) :
    ∃ (t : TableStore) (ev : Evaluation) (w : WatchUnit) (e : WatchEntry), t.watch[(15 : Fin 16)] = .passing e ∧
      e.enable = true ∧ 0 ≤ e.hysteresis ∧ ev.value e.quantity = some v ∧ w.cells[(15 : Fin 16)].state = st :=
  ⟨motorWatched, [(.shaftSpeed, 0), (.motorTemp, v)], watchesIn st false [], motorWatch, by simp [motorWatched], rfl,
    by decide, rfl, by simp [watchesIn]⟩

theorem witness_WaitingWatchNeverFires :
    ∃ (c : Instr) (s t : State) (i : Fin 16), exec c s = .next t ∧ s.watch.cells[i].state = .waiting :=
  ⟨.splitCycleCompletion, cycling (State.reset.setWatch (watchesIn .waiting false [])) someCycle, _, 15, rfl,
    by simp [cycling, watchesIn]⟩

/-- The events of EvaluatingEventsAndTheirNotices: an acceptance of each stream, a completion; an entry that is not
enabled, one of a quantity the event does not concern, and one that fails; and a firing, of a NOTIFY entry and of one with
another action, with its fired flag clear and set, with 7 and 8 notices in the queue. -/
theorem witness_EvaluatingEventsAndTheirNotices (fired : Bool) (n : QueuedNotice) (k : Nat) :
    (∀ r : Role, ∃ (p : Port) (a : FwdAction) (f : Frame) (s : State), s.Classifies p f ∧
      s.tables.classify p f.id = (a, some r) ∧ (a = .consume ∨ a = .consumePass) ∧
      (s.intake.streams.get r).Accepts f) ∧
    (∃ (s : State) (cyc : CycleInputs), s.resetApplied = none ∧ s.split.cycle = some cyc) ∧
    (∃ (t : TableStore) (e : WatchEntry), t.watch[(0 : Fin 16)] = .passing e ∧ e.enable = false) ∧
    (∃ (t : TableStore) (e : WatchEntry), t.watch[(15 : Fin 16)] = .passing e ∧
      Evaluation.value [(.soc, 0)] e.quantity = none) ∧
    (∃ t : TableStore, t.watch[(15 : Fin 16)] = .failing) ∧
    (∃ (t : TableStore) (ev : Evaluation) (m : Mode) (w : WatchUnit) (e : WatchEntry),
      t.watch[(15 : Fin 16)] = .passing e ∧ e.enable = true ∧ e.action = .notify ∧ ev.value e.quantity = some 90 ∧
      w.cells[(15 : Fin 16)] = ⟨.idle, fired⟩ ∧ m = .hybridShared ∧ e.mask.getLsbD 4 = true ∧
      e.comparison = .above ∧ e.threshold ≤ 90 ∧ w.queue.length = k) ∧
    (∃ (t : TableStore) (ev : Evaluation) (m : Mode) (w : WatchUnit) (e : WatchEntry),
      t.watch[(15 : Fin 16)] = .passing e ∧ e.enable = true ∧ e.action ≠ .notify ∧ ev.value e.quantity = some 90 ∧
      w.cells[(15 : Fin 16)] = ⟨.idle, fired⟩ ∧ m = .hybridShared ∧ e.mask.getLsbD 4 = true ∧
      e.comparison = .above ∧ e.threshold ≤ 90 ∧ w.queue.length = k) :=
  ⟨witness_AcceptedFrameIsStored, ⟨cycling State.reset someCycle, _, rfl, rfl⟩,
    ⟨motorWatched, clearedWatchEntry, by simp [motorWatched, powerOnTables], rfl⟩,
    ⟨motorWatched, motorWatch, by simp [motorWatched], by decide⟩,
    ⟨{ powerOnTables with watch := powerOnTables.watch.set 15 .failing }, by simp⟩,
    ⟨motorWatched, [(.motorTemp, 90)], .hybridShared, watchesIn .idle fired (List.replicate k n), motorWatch,
      by simp [motorWatched], rfl, rfl, rfl, by simp [watchesIn], rfl, by decide, rfl, by decide, by simp [watchesIn]⟩,
    ⟨{ powerOnTables with watch := powerOnTables.watch.set 15 (.passing { motorWatch with action := .derateMotor }) },
      [(.motorTemp, 90)], .hybridShared, watchesIn .idle fired (List.replicate k n),
      { motorWatch with action := .derateMotor }, by simp, rfl, by decide, rfl, by simp [watchesIn], rfl, by decide,
      rfl, by decide, by simp [watchesIn]⟩⟩

/-! ### Witnesses: the Forwarding Unit and the ports -/

/-- An entry that matches, an identifier that none matches, and a default record that fails its check. -/
theorem witness_LookupTakesTheOneMatch :
    ForwardInv queued ∧ queued.tables.forward[(0 : Fin 47)] = .passing ⟨true, .portU, 0x110, .consume, some .demand⟩ ∧
      (∀ (i : Fin 47) (e : FwdEntry), queued.tables.forward[i] = .passing e → e.valid = true →
        ¬(e.port = .portU ∧ e.id = 0x111)) ∧
      queued.tables.portDefaults = .passing ⟨.pass, .pass⟩ ∧
      (∃ s : State, ForwardInv s ∧ s.tables.portDefaults = .failing) := by
  refine ⟨forwardInv_queued, by decide +kernel, ?_, rfl,
    ⟨withTables { powerOnTables with portDefaults := .failing }, forwardInv_queued, rfl⟩⟩
  have h : ∀ i : Fin 47, (match defaultForward[i] with
      | .passing e => e.valid && decide (e.port = .portU ∧ e.id = 0x111)
      | .failing => false) = false := by decide +kernel
  intro i e he hv hm
  have := h i
  rw [show defaultForward[i] = .passing e from he] at this
  simp [hv, hm] at this

/-- The reset state with a forward queue of Port D that holds `n` frames. -/
def queueD (n : Nat) : State := State.reset.setForward ⟨resetQueue, ⟨List.replicate n ⟨0x300, []⟩, false⟩⟩

/-- A Table Store whose lookup entry 0, of 0x300 on Port U, holds an action and a role. -/
def roleHeld (a : FwdAction) (r : Option Role) : TableStore :=
  { powerOnTables with forward := powerOnTables.forward.set 0 (.passing ⟨true, .portU, 0x300, a, r⟩) }

theorem classifies_0x300 : State.reset.Classifies .portU ⟨0x300, [1]⟩ :=
  ⟨rfl, by decide, by decide, fun q => by cases q <;> decide⟩

/-- A frame no entry matches, offered to a queue of 15, of 16, and to a port in BUS_OFF; and one whose entry has PASS or
DROP with a role, or consumes it without one. -/
theorem witness_PassedFrameJoinsTheOtherPortsQueue :
    (∃ s : State, s.Classifies .portU ⟨0x300, [1]⟩ ∧ s.tables.classify .portU 0x300 = (.pass, none) ∧
      (s.ports.port.get .portD).error ≠ .busOff ∧ (s.forward.get .portD).frames.length = 15) ∧
    (∃ s : State, s.Classifies .portU ⟨0x300, [1]⟩ ∧ s.tables.classify .portU 0x300 = (.pass, none) ∧
      (s.ports.port.get .portD).error ≠ .busOff ∧ (s.forward.get .portD).frames.length = 16) ∧
    (∃ s : State, s.Classifies .portU ⟨0x300, [1]⟩ ∧ s.tables.classify .portU 0x300 = (.drop, none) ∧
      (s.ports.port.get .portD).error = .busOff) ∧
    (∀ (a : FwdAction) (r : Option Role), ∃ s : State, s.Classifies .portU ⟨0x300, [1]⟩ ∧
      s.tables.classify .portU 0x300 = (a, r) ∧ (s.ports.port.get .portD).error ≠ .busOff ∧
      (s.forward.get .portD).frames.length < 16) :=
  ⟨⟨queueD 15, ⟨rfl, by decide, by decide, fun q => by cases q <;> decide⟩, by decide +kernel, by decide, by decide⟩,
    ⟨queueD 16, ⟨rfl, by decide, by decide, fun q => by cases q <;> decide⟩, by decide +kernel, by decide, by decide⟩,
    ⟨(State.reset.setPort .portD ⟨.busOff, 256, 0, 0, none⟩).setTables
        { powerOnTables with portDefaults := .passing ⟨.drop, .drop⟩ },
      ⟨rfl, by decide, by decide, fun q => by cases q <;> decide⟩, by decide +kernel, by decide⟩,
    fun a r => ⟨withTables (roleHeld a r), ⟨rfl, classifies_0x300.online, by decide, classifies_0x300.plain⟩, rfl,
      (by decide : (State.reset.ports.port.get .portD).error ≠ .busOff),
      (by decide : (State.reset.forward.get .portD).frames.length < 16)⟩⟩

/-- The request of a command, for the clause of PortCountsFollowReceptionAndRecovery on Port U in BUS_OFF. -/
theorem witness_a_command_is_a_request : (commandRequest (.copy .service 1 ⟨0, 0, 0⟩)).isSome = true := rfl

/-- A port in each error state, at the bounds of its counts, the recovery count at 126 and at its last value 127. -/
theorem witness_PortCountsFollowReceptionAndRecovery (p : Port) :
    (∃ s : State, s.resetApplied = none ∧ s.ports.port.get p = ⟨.errorActive, 127, 127, 0, none⟩ ∧
      (s.ports.port.get p).Consistent) ∧
    (∃ s : State, s.resetApplied = none ∧ s.ports.port.get p = ⟨.errorPassive, 127, 128, 0, none⟩ ∧
      (s.ports.port.get p).Consistent) ∧
    (∃ s : State, s.resetApplied = none ∧ s.ports.port.get p = ⟨.busOff, 256, 0, 126, none⟩ ∧
      (s.ports.port.get p).Consistent) ∧
    (∃ s : State, s.resetApplied = none ∧ s.ports.port.get p = ⟨.busOff, 256, 0, 127, none⟩ ∧
      (s.ports.port.get p).Consistent) := by
  refine ⟨⟨State.reset.setPort p ⟨.errorActive, 127, 127, 0, none⟩, rfl, ?_, ?_⟩,
    ⟨State.reset.setPort p ⟨.errorPassive, 127, 128, 0, none⟩, rfl, ?_, ?_⟩,
    ⟨State.reset.setPort p ⟨.busOff, 256, 0, 126, none⟩, rfl, ?_, ?_⟩,
    ⟨State.reset.setPort p ⟨.busOff, 256, 0, 127, none⟩, rfl, ?_, ?_⟩⟩ <;> cases p <;>
    first
    | rfl
    | exact ⟨by decide, by decide, by decide, by decide, by decide, by decide⟩

theorem witness_recovery_removes_the_source :
    ∃ s : State, s.resetApplied = none ∧ s.ports.port.d.Consistent ∧ s.ports.port.d.error = .busOff ∧
      s.ports.port.d.recovery = 127 ∧ s.faults.sources[srcDownlinkLoss].state = .active ∧
      s.faults.sources[srcDownlinkLoss].cond = true :=
  ⟨(withFault 11).setPort .portD ⟨.busOff, 256, 0, 127, none⟩, rfl,
    ⟨by decide, by decide, by decide, by decide, by decide, by decide⟩, rfl, rfl, by decide, by decide⟩

/-- The content of an ENGINE_CMD frame. -/
def engineOff : Content := ⟨0x120, .engineCmd .off 0 0⟩

/-- R200, R202: the frames of a report of D −180 Nm and U 65 Nm that ENG_LO and ENG_SLEW bound in SAFE, and of a reply of
value −2 with status BAD_VALUE, bit by bit from their rows. -/
theorem test_report_and_reply_layout :
    (Content.toFrame ⟨0x121, .splitReport (-180) 0 0 65 ⟨false, true, false, false, true⟩ .safe⟩ 9).data.take 7 =
        [0x4C, 0x07, 0, 0x80, 0x20, 0x48, 0xD9] ∧
      (Content.toFrame ⟨0x6A2, .reply 0x77 8 5 46 0xFFFFFE .badValue⟩ 3).data.take 7 =
        [0x77, 0x58, 46, 0xFE, 0xFF, 0xFF, 0x93] := by decide

/-- Two candidates that share an identifier, and none. -/
theorem witness_TransmitStartTakesTheLowestCandidate :
    (∃ s : State, s.resetApplied = none ∧ (s.ports.port.get .portD).error ≠ .busOff ∧
      (s.ports.port.get .portD).attempt = none ∧ s.candidates .portD = []) ∧
    (∃ (s : State) (a b : Attempt), s.resetApplied = none ∧ (s.ports.port.get .portD).error ≠ .busOff ∧
      (s.ports.port.get .portD).attempt = none ∧ s.candidates .portD = [] ++ a :: [b] ∧
      a.frame.id.toNat ≤ b.frame.id.toNat ∧ a.holder.kind = some (.slot .engineCmd)) ∧
    (∃ (s : State) (a b : Attempt), s.resetApplied = none ∧ (s.ports.port.get .portD).error ≠ .busOff ∧
      (s.ports.port.get .portD).attempt = none ∧ s.candidates .portD = [b] ++ a :: [] ∧
      a.frame.id.toNat < b.frame.id.toNat ∧ a.holder.kind = none) :=
  ⟨⟨State.reset, rfl, by decide, rfl, rfl⟩,
    ⟨((queueD 0).place .engineCmd engineOff).setForward ⟨resetQueue, ⟨[⟨0x120, []⟩], false⟩⟩, _, _, rfl, by decide, rfl,
      rfl, by decide, rfl⟩,
    ⟨((queueD 0).place .engineCmd engineOff).setForward ⟨resetQueue, ⟨[⟨0x11F, []⟩], false⟩⟩, _, _, rfl, by decide, rfl,
      rfl, by decide, rfl⟩⟩

/-- A state with an attempt in progress on a port in an error state with a transmit count. -/
def attempting (p : Port) (e : ErrorState) (tx rx : Nat) (a : Attempt) : State :=
  State.reset.setPort p ⟨e, tx, rx, 0, some a⟩

/-- An attempt of each kind of holder. -/
theorem witness_CompletionEndsTheAttempt (h : Holder) :
    ∃ (p : Port) (s : State) (a : Attempt), s.resetApplied = none ∧ (s.ports.port.get p).attempt = some a ∧
      a.holder = h :=
  ⟨.portU, attempting .portU .errorActive 0 0 ⟨h, ⟨0x120, []⟩⟩, ⟨h, ⟨0x120, []⟩⟩, rfl, rfl, rfl⟩

/-- A failed attempt at the counts where the error table's lines meet: 120 in ERROR_ACTIVE, 247 and 248 in
ERROR_PASSIVE. -/
theorem witness_FailedAttemptsFollowTheErrorTable (p : Port) (a : Attempt) :
    (∃ s : State, s.resetApplied = none ∧ (s.ports.port.get p).attempt = some a ∧ (s.ports.port.get p).Consistent ∧
      (s.ports.port.get p).error = .errorActive ∧ (s.ports.port.get p).txCount = 120) ∧
    (∃ s : State, s.resetApplied = none ∧ (s.ports.port.get p).attempt = some a ∧ (s.ports.port.get p).Consistent ∧
      (s.ports.port.get p).error = .errorPassive ∧ (s.ports.port.get p).txCount = 247) ∧
    (∃ s : State, s.resetApplied = none ∧ (s.ports.port.get p).attempt = some a ∧ (s.ports.port.get p).Consistent ∧
      (s.ports.port.get p).error = .errorPassive ∧ (s.ports.port.get p).txCount = 248) := by
  refine ⟨⟨attempting p .errorActive 120 0 a, rfl, ?_, ?_, ?_, ?_⟩, ⟨attempting p .errorPassive 247 0 a, rfl, ?_, ?_, ?_, ?_⟩,
    ⟨attempting p .errorPassive 248 0 a, rfl, ?_, ?_, ?_, ?_⟩⟩ <;> cases p <;>
    first
    | rfl
    | exact ⟨(by omega : 120 ≤ 256), Nat.zero_le _, (by omega : 0 < 128), fun _ => ⟨(by omega : 120 ≤ 127), Nat.zero_le _⟩, nofun, nofun⟩
    | exact ⟨(by omega : 247 ≤ 256), Nat.zero_le _, (by omega : 0 < 128), nofun,
        fun _ => ⟨(by omega : 247 ≤ 255), .inl (by omega : 127 < 247)⟩, nofun⟩
    | exact ⟨(by omega : 248 ≤ 256), Nat.zero_le _, (by omega : 0 < 128), nofun,
        fun _ => ⟨(by omega : 248 ≤ 255), .inl (by omega : 127 < 248)⟩, nofun⟩

/-! ### Witnesses: the Management Unit -/

/-- The reset state takes a request of either requester. -/
theorem witness_takes (q : Requester) : State.reset.Takes q := ⟨rfl, by decide, by cases q <;> rfl⟩

/-- A request that finds its slot EMPTY, one that finds it SENDING, and a malformed one. -/
theorem witness_RequestsAreAnsweredOnceOrOverrun :
    (∃ (c : Instr) (r : Request) (s : State), commandRequest c = some (.service, r) ∧ s.resetApplied = none ∧
      s.ports.port.u.error ≠ .busOff ∧ s.ports.slots.get (replySlot .service) = .empty) ∧
    (∃ (c : Instr) (r : Request) (s : State), commandRequest c = some (.service, r) ∧ s.resetApplied = none ∧
      s.ports.port.u.error ≠ .busOff ∧ s.ports.slots.get (replySlot .service) ≠ .empty) ∧
    (∃ (bytes : List Byte) (r : Request), commandRequest (.malformedRequest .supervisor bytes) = some (.supervisor, r) ∧
      malformedBytes bytes = true) ∧
    (∃ (c : Instr) (r : Request) (s t : State), commandRequest c = some (.supervisor, r) ∧ exec c s = .next t) :=
  ⟨⟨.commit .service 7 ⟨1, 2, 3⟩, _, State.reset, rfl, rfl, by decide, rfl⟩,
    ⟨.commit .service 7 ⟨1, 2, 3⟩, _,
      State.reset.setPorts { resetPorts with slots := resetPorts.slots.set .replyService (.sending engineOff) }, rfl, rfl,
      by decide, by decide⟩,
    ⟨[], _, rfl, by decide⟩, ⟨.copy .supervisor 1 ⟨0, 0, 0⟩, _, State.reset, _, rfl, rfl⟩⟩

theorem witness_RequestFramesAreTheManagementCommands :
    State.reset.resetApplied = none ∧ State.reset.ports.port.u.Consistent ∧ State.reset.ports.port.u.error ≠ .busOff ∧
    (∃ (c : Instr) (r : Request) (data : List Byte), commandRequest c = some (.service, r) ∧ r.kind = some .write ∧
      data = [0xF2, 7, 0x10, 3, 0xCE, 0xFF, 0xFF, 0xAA] ∧ ((data.getD 0 0).getLsbD 4 = true ↔ r.bank = .shadow) ∧
      data.getD 1 0 = r.tag ∧ (data.getD 2 0).extractLsb' 0 4 = r.table ∧ (data.getD 2 0).extractLsb' 4 4 = r.field ∧
      data.getD 3 0 = r.index ∧ (0xCE : Byte).toNat + 256 * (0xFF : Byte).toNat + 65536 * (0xFF : Byte).toNat =
        r.value.toNat) ∧
    (∃ (c : Instr) (r : Request) (data : List Byte), commandRequest c = some (.supervisor, r) ∧ r.kind = some .status ∧
      data = [0x18, 9, 0x2A, 15, 1, 2, 3, 4] ∧ r.bank = .active ∧ r.value = 0 ∧ data.getD 1 0 = r.tag ∧
      (data.getD 2 0).extractLsb' 0 4 = r.table ∧ (data.getD 2 0).extractLsb' 4 4 = r.field ∧ data.getD 3 0 = r.index) ∧
    (∃ q : Requester, State.reset.ports.slots.get (replySlot q) = .empty) ∧
    (∃ (f : Frame) (s : State), s.resetApplied = none ∧ (s.ports.port.get .portD).error ≠ .busOff ∧
      f.data.length ≤ 8 ∧ f.id = requestIdent s.strapId .service) ∧
    (∃ (f : Frame) (s : State), s.resetApplied = none ∧ (s.ports.port.get .portU).error ≠ .busOff ∧
      f.data.length ≤ 8 ∧ f.id = replyIdent s.strapId .service) :=
  ⟨rfl, ⟨by decide, by decide, by decide, by decide, by decide, by decide⟩, by decide,
    ⟨.write .service 7 .shadow (.bank .param) 3 1 0xFFFFCE, _, _, rfl, rfl, rfl, by decide, by decide, by decide,
      by decide, by decide, by decide⟩,
    ⟨.statusRead .supervisor 9 10 2 15, _, _, rfl, rfl, rfl, rfl, rfl, by decide, by decide, by decide, by decide⟩,
    ⟨.service, rfl⟩, ⟨⟨0x6A1, []⟩, State.reset, rfl, by decide, by decide, rfl⟩,
    ⟨⟨0x6A3, List.replicate 8 0⟩, State.reset, rfl, by decide, by decide, rfl⟩⟩

/-- The reset state with a requester's hold on a live entry. -/
def holding (q : Requester) (h : HeldEntry) : State := State.reset.holdEntry q h

/-- A Table Store whose WATCH entry 15 fails its check. -/
def watchStruck : TableStore := { powerOnTables with watch := powerOnTables.watch.set 15 .failing }

/-- Every clause of the reads and of the reads with a hold: an index and a field that do not exist, an entry that fails, one that passes, and the
three situations of a hold, at WATCH 15 field 8. -/
theorem witness_ReadsAnswerTheStoredField :
    (∃ s : State, s.Takes .service ∧ 16 ≤ (16 : Byte).toNat ∧ (15 : Byte).toNat < 16 ∧
      ¬(9 : Nibble).toNat ≤ 8 ∧ ¬1 ≤ (0 : Nibble).toNat ∧ (1 ≤ (8 : Nibble).toNat ∧ (8 : Nibble).toNat ≤ 8) ∧
      s.tables.entryNumbers .active (.bank .param) 0 = none ∧
      (∃ ns, s.tables.entryNumbers .active (.live .watch) 15 = some ns) ∧ (s.mgmt.get .service).hold = none) ∧
    (∃ s : State, s.Takes .service ∧ (s.mgmt.get .service).hold = some ⟨.watch, 14⟩) ∧
    (∃ s : State, s.Takes .service ∧ (s.mgmt.get .service).hold = none ∧
      (s.mgmt.get .supervisor).hold = some ⟨.watch, 15⟩) ∧
    (∃ s : State, s.Takes .service ∧ (s.mgmt.get .service).hold = some ⟨.watch, 15⟩ ∧
      (s.mgmt.get .supervisor).hold ≠ some ⟨.watch, 15⟩ ∧ s.tables.watch[(15 : Fin 16)] = .failing ∧
      s.tables.entryNumbers .active (.live .watch) 15 = none) ∧
    (∃ t : TableStore, t.portDefaults = .failing) :=
  ⟨⟨State.reset, witness_takes _, by decide, by decide, by decide, by decide, by decide, by decide +kernel,
      ⟨_, (by decide +kernel : State.reset.tables.entryNumbers .active (.live .watch) 15 = some [0, 0, 0, 0, 0, 0, 0, 0])⟩,
      rfl⟩,
    ⟨holding .service ⟨.watch, 14⟩, ⟨rfl, by decide, rfl⟩, rfl⟩,
    ⟨holding .supervisor ⟨.watch, 15⟩, ⟨rfl, by decide, rfl⟩, rfl, rfl⟩,
    ⟨(holding .service ⟨.watch, 15⟩).setTables watchStruck, ⟨rfl, by decide, rfl⟩, rfl, by decide, by simp [watchStruck],
      by simp [watchStruck, TableStore.entryNumbers, TableStore.liveNumbers, Checked.numbers]⟩,
    ⟨{ powerOnTables with portDefaults := .failing }, rfl⟩⟩

/-- Each refusal of a WRITE, at the ends of the tables: an index and a field beyond them, the active bank, each
WRONG_REGIME, each BUSY, the two refusals of a hold, and an entry that fails its check in the shadow and in a live
table. -/
theorem witness_WritesAreRefusedInOrder :
    (∃ s : State, s.Takes .service ∧ s.regime.mode = .standby ∧ s.tables.walk.isRunning = false ∧
      s.tables.copy = none ∧ s.tables.swapPending = false ∧ (s.mgmt.get .service).hold = none ∧
      (s.tables.bank s.tables.shadow).entryAt 0 = .failing ∧ (16 : Byte).toNat = 16 ∧ (9 : Nibble).toNat = 9) ∧
    (∃ s : State, s.Takes .service ∧ s.regime.mode = .hybridShared ∧
      s.tables.forward[(46 : Fin 47)] = .passing ⟨false, .portU, 0, .pass, none⟩) ∧
    (∃ s : State, s.Takes .supervisor ∧ s.regime.mode = .safe ∧
      s.tables.forward[(0 : Fin 47)] = .passing ⟨true, .portU, 0x110, .consume, some .demand⟩) ∧
    (∃ s : State, s.Takes .supervisor ∧ s.tables.walk.isRunning = true) ∧
    (∃ s : State, s.Takes .supervisor ∧ s.tables.copy = some 0) ∧
    (∃ s : State, s.Takes .supervisor ∧ s.tables.swapPending = true) ∧
    (∃ s : State, s.Takes .service ∧ s.regime.mode = .standby ∧ (s.mgmt.get .service).hold = some ⟨.watch, 14⟩) ∧
    (∃ s : State, s.Takes .service ∧ s.regime.mode = .standby ∧ (s.mgmt.get .service).hold = none ∧
      (s.mgmt.get .supervisor).hold = some ⟨.watch, 15⟩) ∧
    (∃ s : State, s.Takes .supervisor ∧ (s.mgmt.get .supervisor).hold = none ∧
      (s.mgmt.get .service).hold = none ∧ s.tables.watch[15]? = some .failing) :=
  ⟨⟨State.reset, witness_takes _, rfl, rfl, rfl, rfl, rfl, by
      simp [State.reset, powerOnTables, TableStore.shadow, BankName.other, TableStore.bank, undeterminedBank, Bank.entryAt],
      rfl, rfl⟩,
    ⟨inMode .hybridShared, ⟨rfl, by decide, rfl⟩, rfl, by decide +kernel⟩,
    ⟨inMode .safe, ⟨rfl, by decide, rfl⟩, rfl, by decide +kernel⟩,
    ⟨withTables (pinResetTables powerOnTables), ⟨rfl, by decide, rfl⟩, rfl⟩,
    ⟨withTables { powerOnTables with copy := some 0 }, ⟨rfl, by decide, rfl⟩, rfl⟩,
    ⟨withTables swapWaits, ⟨rfl, by decide, rfl⟩, rfl⟩,
    ⟨holding .service ⟨.watch, 14⟩, ⟨rfl, by decide, rfl⟩, rfl, rfl⟩,
    ⟨holding .supervisor ⟨.watch, 15⟩, ⟨rfl, by decide, rfl⟩, rfl, rfl, rfl⟩,
    ⟨withTables watchStruck, ⟨rfl, by decide, rfl⟩, rfl, rfl, by simp [withTables, watchStruck]⟩⟩

/-- A shadow entry that passes its check, at the last cell of the last map, and values at and beyond the ends of a
range. -/
theorem witness_BankWritesReplaceOneEntry :
    (∃ s : State, s.Takes .service ∧ (s.regime.mode = .standby ∨ s.regime.mode = .safe) ∧
      s.tables.walk.isRunning = false ∧ s.tables.copy = none ∧ s.tables.swapPending = false ∧
      (s.tables.bank s.tables.shadow).entryAt (BankTable.map3.base + 119) = .passing ⟨1, 0⟩) ∧
    (∃ s : State, s.Takes .supervisor ∧ s.regime.mode = .hybridShared ∧ s.tables.walk.isRunning = false ∧
      s.tables.copy = none ∧ s.tables.swapPending = false) ∧
    fieldRange .map3 119 2 = (0, 150) ∧ fieldRange .param 5 1 = (-400, 0) ∧ (119 : Byte).toNat < BankTable.map3.size ∧
    ((0xFFFE70 : Value24).toInt = -400 ∧ (0xFFFE6F : Value24).toInt = -401) :=
  ⟨⟨withTables { walkedThrough with walk := .passed }, ⟨rfl, by decide, rfl⟩, .inl rfl, rfl, rfl, rfl,
      entryAt_evenBank _ _ (by decide)⟩,
    ⟨inMode .hybridShared, ⟨rfl, by decide, rfl⟩, rfl, rfl, rfl, rfl⟩, by decide, by decide, by decide, by decide⟩

/-- An entry of each live table, held by the requester or by no one; a forwarding entry that clashes with another when it
is made valid, and one that does not; a threshold at both ends of its range; each regime R190 names. -/
theorem witness_LiveWritesReplaceOneEntry :
    (∃ s : State, s.Takes .service ∧ (s.mgmt.get .supervisor).hold = none ∧ (s.mgmt.get .service).hold = none ∧
      s.regime.mode = .standby ∧
      s.tables.forward[(0 : Fin 47)] = .passing ⟨true, .portU, 0x110, .consume, some .demand⟩ ∧
      s.tables.forward[(46 : Fin 47)] = .passing ⟨false, .portU, 0, .pass, none⟩ ∧
      s.tables.portDefaults = .passing ⟨.pass, .pass⟩ ∧
      s.tables.faultMap[(11 : Fin 12)] = .passing ⟨⟨true, true, true, true⟩, .safe, .auto⟩) ∧
    (∃ s : State, s.Takes .supervisor ∧ (s.mgmt.get .service).hold = none ∧
      (s.mgmt.get .supervisor).hold = some ⟨.forward, 46⟩ ∧ s.regime.mode = .standby ∧
      s.tables.forward[(46 : Fin 47)] = .passing ⟨false, .portU, 0, .pass, none⟩) ∧
    (∃ s : State, s.Takes .service ∧ (s.mgmt.get .supervisor).hold = none ∧ (s.mgmt.get .service).hold = none ∧
      s.regime.mode = .standby ∧ s.tables.forward[(46 : Fin 47)] = .passing ⟨false, .portU, 0x110, .pass, none⟩) ∧
    (∃ s : State, s.Takes .supervisor ∧ (s.mgmt.get .supervisor).hold = none ∧
      (s.mgmt.get .service).hold ≠ some ⟨.watch, 15⟩ ∧ s.regime.mode = .hybridShared ∧
      s.tables.watch[(15 : Fin 16)] = .passing motorWatch ∧ motorWatch.quantity.range = (-40, 200)) ∧
    (∃ s : State, s.Takes .service ∧ (s.mgmt.get .service).hold = some ⟨.faultMap, 11⟩ ∧ s.regime.mode = .safe ∧
      s.tables.faultMap[(11 : Fin 12)] = .passing ⟨⟨true, true, true, true⟩, .safe, .auto⟩) ∧
    ((0xFFFFD8 : Value24).toInt = -40 ∧ (200 : Value24).toInt = 200) :=
  ⟨⟨State.reset, witness_takes _, rfl, rfl, rfl, by decide +kernel, by decide +kernel, rfl, by decide +kernel⟩,
    ⟨holding .supervisor ⟨.forward, 46⟩, ⟨rfl, by decide, rfl⟩, rfl, rfl, rfl, by decide +kernel⟩,
    ⟨withTables { powerOnTables with
        forward := powerOnTables.forward.set 46 (.passing ⟨false, .portU, 0x110, .pass, none⟩) }, ⟨rfl, by decide, rfl⟩,
      rfl, rfl, rfl, by simp [withTables]⟩,
    ⟨(inMode .hybridShared).setTables motorWatched, ⟨rfl, by decide, rfl⟩, rfl, by decide, rfl, by simp [motorWatched],
      rfl⟩,
    ⟨(holding .service ⟨.faultMap, 11⟩).setRegime { State.reset.regime with mode := .safe }, ⟨rfl, by decide, rfl⟩, rfl,
      rfl, by decide +kernel⟩, by decide, by decide⟩

/-- Both requesters in STANDBY, the service tool in HYBRID, and each operation in flight. -/
theorem witness_BankOperationsFollowTheInterlocks :
    (∃ s : State, s.Takes .service ∧ s.regime.mode = .standby ∧ s.tables.walk.isRunning = false ∧
      s.tables.copy = none ∧ s.tables.swapPending = false) ∧
    (∃ s : State, s.Takes .service ∧ s.regime.mode = .hybridShared) ∧
    (∃ s : State, s.Takes .supervisor ∧ s.tables.walk.isRunning = true) ∧
    (∃ s : State, s.Takes .supervisor ∧ s.tables.copy = some 0) ∧
    (∃ s : State, s.Takes .supervisor ∧ s.tables.walk.isRunning = false ∧ s.tables.copy = none ∧
      s.tables.swapPending = true) ∧
    (∃ s : State, s.resetApplied = none ∧ (s.mgmt.get .supervisor).window.isRunning = true) :=
  ⟨⟨State.reset, witness_takes _, rfl, rfl, rfl, rfl⟩, ⟨inMode .hybridShared, ⟨rfl, by decide, rfl⟩, rfl⟩,
    ⟨withTables (pinResetTables powerOnTables), ⟨rfl, by decide, rfl⟩, rfl⟩,
    ⟨withTables { powerOnTables with copy := some 0 }, ⟨rfl, by decide, rfl⟩, rfl⟩,
    ⟨withTables swapWaits, ⟨rfl, by decide, rfl⟩, rfl, rfl, rfl⟩,
    ⟨holding .supervisor ⟨.watch, 7⟩, rfl, rfl⟩⟩

theorem witness_AcknowledgementsClearTheirTargets :
    (∃ s : State, s.Takes .supervisor ∧ s.faults.sources[(11 : Fin 12)].state = .active) ∧
    (∃ s : State, s.Takes .supervisor ∧ s.faults.sources[(10 : Fin 12)].state ≠ .active) ∧
    (∃ index : Byte, index.toNat = (11 : Fin 12).val) ∧ (∃ index : Byte, 12 ≤ index.toNat) ∧
    (∃ index : Byte, index.toNat = (15 : Fin 16).val) ∧ (∃ index : Byte, 16 ≤ index.toNat) ∧
    (∀ b2 : Byte, b2 = 0x0B ∨ b2 = 0x5B → ∃ (s : State) (f : Frame), s.Takes .supervisor ∧
      f.id = requestIdent s.strapId .supervisor ∧ f.data.length = 8 ∧ (f.data.getD 0 0).extractLsb' 0 4 = 7 ∧
      ((f.data.getD 2 0).extractLsb' 4 4 = 0 ∨ 4 < ((f.data.getD 2 0).extractLsb' 4 4).toNat)) :=
  ⟨⟨withFault 11, ⟨rfl, by decide, rfl⟩, by decide⟩, ⟨State.reset, witness_takes _, by decide⟩, ⟨11, by decide⟩,
    ⟨12, by decide⟩, ⟨15, by decide⟩, ⟨16, by decide⟩,
    fun b2 h => ⟨State.reset, ⟨0x6A0, [7, 1, b2, 0, 0, 0, 0, 0]⟩, witness_takes _, rfl, rfl, rfl, by
      rcases h with rfl | rfl <;> decide⟩⟩

/-- A snapshot taken and none, the last line of page 7 and the line beyond it, page 7 and the page beyond it. -/
theorem witness_StatusReadsTheSnapshot :
    (∃ s : State, s.Takes .service ∧ (s.mgmt.get .service).snapshot = none) ∧
    (∃ (s : State) (x : Snapshot), s.Takes .service ∧ (s.mgmt.get .service).snapshot = some x) ∧
    (∃ (page : Nibble) (line : Byte), page.toNat < 8 ∧
      line.toNat < [3, 12, 30, 10, 10, 10, 17, 4].getD page.toNat 0 ∧ (page ≠ 0 ∨ line ≠ 0)) ∧
    (∃ (page : Nibble) (line : Byte), page.toNat < 8 ∧ [3, 12, 30, 10, 10, 10, 17, 4].getD page.toNat 0 ≤ line.toNat) ∧
    (∃ page : Nibble, 8 ≤ page.toNat) :=
  ⟨⟨State.reset, witness_takes _, rfl⟩, ⟨State.reset.capture .service, _, ⟨rfl, by decide, rfl⟩, rfl⟩,
    ⟨7, 3, by decide, by decide, by decide⟩, ⟨7, 4, by decide, by decide⟩, ⟨8, by decide⟩⟩

end Sys2Proof.Tests
end

section
/-! PROOFS. The battery lanes of the Limit Vector Unit (R54). -/

namespace Sys2Proof.Machine

theorem nEff_eq_max (speed : Int) : nEff speed = max speed 500 := by
  unfold nEff
  split <;> omega

/-- At or below the floor of R55 the conversion runs at 500. -/
theorem nEff_of_le {speed : Int} (h : speed ≤ 500) : nEff speed = 500 := by
  rw [nEff_eq_max, max_eq_right h]

/-- R54's conversion, the speed floor and both saturations said through max and min. -/
theorem batteryRecord_eq (wp : WorkingParams) (v : BatteryVals) (speed : Int) :
    batteryRecord wp v speed =
      ⟨none, none, some (max 0 (min 400 (v.pDis * wp.etaMot * 955 / (1000 * max speed 500)))),
        some (max (-400) (min 0 (-(v.pChg * 1000 * 955 / (wp.etaGen * max speed 500)))))⟩ := by
  simp only [batteryRecord, batteryMotHi, batteryMotLo, satHi_eq, satLo_eq, nEff_eq_max]

/-- Under the inputs of R54's worked table the record depends on the effective speed alone. -/
theorem batteryRecord_of_tableInputs {wp : WorkingParams} {v : BatteryVals} {speed n : Int}
    (hmot : wp.etaMot = 920) (hgen : wp.etaGen = 900) (hdis : v.pDis = 1000) (hchg : v.pChg = 1000)
    (hn : nEff speed = n) :
    batteryRecord wp v speed =
      ⟨none, none, some (satHi (878600000 / (1000 * n))), some (satLo (-(955000000 / (900 * n))))⟩ := by
  simp only [batteryRecord, batteryMotHi, batteryMotLo, hmot, hgen, hdis, hchg, hn, Int.reduceMul]

/-- Settles O21: the conversion for every input, then the rows of the worked table, each read at its effective
speed. -/
theorem batteryLanesFollowPowerAndSpeed : Obligations.BatteryLanesFollowPowerAndSpeed := by
  refine ⟨batteryRecord_eq, fun wp v speed hmot hgen hdis hchg => ?_⟩
  have row {n : Int} (hn : nEff speed = n) := batteryRecord_of_tableInputs hmot hgen hdis hchg hn
  refine ⟨fun h => ?atMost500, fun h => ?at2000, fun h => ?at3000, fun h => ?at5000, fun h => ?at7000⟩
  case atMost500 => exact (row (nEff_of_le h)).trans (by decide)
  case at2000 => subst h; exact (row rfl).trans (by decide)
  case at3000 => subst h; exact (row rfl).trans (by decide)
  case at5000 => subst h; exact (row rfl).trans (by decide)
  case at7000 => subst h; exact (row rfl).trans (by decide)

end Sys2Proof.Machine
end

section
/-! PROOFS. The engine-wanted flag of the Split Engine (R84). -/

namespace Sys2Proof.Machine

section

variable {cyc : CycleInputs} {prev : Bool} {d e c : Int}

/-- The cases that keep the engine off come before every case that asks for it. -/
theorem engineWanted_of_prohibited
    (h : cyc.inhibit = true ∨ cyc.zone = true ∧ cyc.wp.socZoneFloor ≤ cyc.soc) :
    engineWanted cyc prev d e c = false := by
  unfold engineWanted
  by_cases hi : cyc.inhibit = true
  · rw [if_pos hi]
  · rw [if_neg hi, if_pos (h.resolve_left hi)]

/-- With neither prohibition: the cases that ask for the engine as one, then those that leave it. -/
theorem engineWanted_of_allowed (hi : cyc.inhibit = false)
    (hz : cyc.zone = false ∨ cyc.soc < cyc.wp.socZoneFloor) :
    engineWanted cyc prev d e c =
      if (0 < d ∧ (cyc.wp.eOn ≤ e ∨ 0 < c)) ∨ cyc.soc < cyc.wp.socFloor ∨ cyc.hold = true then true
      else if d ≤ 0 ∨ e < cyc.wp.eOff then false else prev := by
  have zoneOpen : ¬(cyc.zone = true ∧ cyc.wp.socZoneFloor ≤ cyc.soc) := by
    rintro ⟨hset, habove⟩
    rcases hz with hclear | hbelow
    · exact ne_true_of_eq_false hclear hset
    · exact not_lt_of_ge habove hbelow
  unfold engineWanted
  rw [if_neg (ne_true_of_eq_false hi), if_neg zoneOpen]
  simp only [ite_or]

/-- With neither prohibition and no case that asks for the engine, the flag falls or is kept. -/
theorem engineWanted_of_unasked (hi : cyc.inhibit = false)
    (hz : cyc.zone = false ∨ cyc.soc < cyc.wp.socZoneFloor) (hsoc : cyc.wp.socFloor ≤ cyc.soc)
    (hhold : cyc.hold = false) (hdemand : ¬(0 < d ∧ (cyc.wp.eOn ≤ e ∨ 0 < c))) :
    engineWanted cyc prev d e c = if d ≤ 0 ∨ e < cyc.wp.eOff then false else prev := by
  rw [engineWanted_of_allowed hi hz, if_neg]
  rintro (h | h | h)
  · exact hdemand h
  · exact not_lt_of_ge hsoc h
  · exact ne_true_of_eq_false hhold h

end

/-- A completed cycle records the flag of R84 at its head and keeps it for the next cycle. -/
theorem State.completeCycle_wanted (s : State) (cyc : CycleInputs) :
    let t := s.completeCycle cyc
    let x := t.split.history.newest
    x.wanted = engineWanted cyc s.split.prevWanted x.d x.e x.c ∧ t.split.prevWanted = x.wanted := by
  simp only [State.completeCycle_split]
  exact ⟨rfl, rfl⟩

/-- Settles O31: each case of the flag in its order, then the flag of every completion. -/
theorem engineWantedFollowsTheCases : Obligations.EngineWantedFollowsTheCases := by
  refine ⟨fun cyc prev d e c => ⟨fun hi => engineWanted_of_prohibited (.inl hi),
    fun hz habove => engineWanted_of_prohibited (.inr ⟨hz, habove⟩),
    fun hi hz => ⟨?demand, ?lowSoc, ?hold, ?noDemand, ?kept⟩⟩,
    fun s cyc hreset hcycle => ⟨_, exec_splitCycleCompletion hreset hcycle, s.completeCycle_wanted cyc⟩⟩
  case demand => exact fun hd hask => (engineWanted_of_allowed hi hz).trans (if_pos (.inl ⟨hd, hask⟩))
  case lowSoc => exact fun hlow => (engineWanted_of_allowed hi hz).trans (if_pos (.inr (.inl hlow)))
  case hold => exact fun hhold => (engineWanted_of_allowed hi hz).trans (if_pos (.inr (.inr hhold)))
  case noDemand =>
    intro hsoc hhold hd
    rw [engineWanted_of_unasked hi hz hsoc hhold (fun h => not_lt_of_ge hd h.1), if_pos (.inl hd)]
  case kept =>
    intro hsoc hhold hd hc he
    have unasked : ¬(0 < d ∧ (cyc.wp.eOn ≤ e ∨ 0 < c)) := by omega
    rw [engineWanted_of_unasked hi hz hsoc hhold unasked]
    simp only [not_le_of_gt hd, false_or]

end Sys2Proof.Machine
end

section
/-! PROOFS. SAFE at a split cycle start (R124): step 1 of settling, and the start that takes it. -/

namespace Sys2Proof.Machine

/-- A SAFE consequence leaves STANDBY as it is. -/
theorem RegimeState.settle_of_safe_standby {wp : WorkingParams} {i : SettleInputs} {r : RegimeState}
    (hc : i.cons = .safe) (hm : r.mode = .standby) : r.settle wp i = r := by
  unfold RegimeState.settle
  rw [if_pos hc, if_pos (.inl hm)]

/-- A SAFE consequence takes every regime but STANDBY and SAFE itself to SAFE. -/
theorem RegimeState.settle_enters_safe {wp : WorkingParams} {i : SettleInputs} {r : RegimeState}
    (hc : i.cons = .safe) (hstandby : r.mode ≠ .standby) (hsafe : r.mode ≠ .safe) :
    r.settle wp i = r.enter wp .safe := by
  unfold RegimeState.settle
  rw [if_pos hc, if_neg (not_or.2 ⟨hstandby, hsafe⟩)]

/-- In SAFE settling looks at READY and the consequence only: both gone, it enters STANDBY; else nothing changes. -/
theorem RegimeState.settle_in_safe {wp : WorkingParams} {i : SettleInputs} {r : RegimeState} (hm : r.mode = .safe) :
    r.settle wp i = if i.ready = false ∧ i.cons ≠ .safe then r.enter wp .standby else r := by
  unfold RegimeState.settle
  by_cases hc : i.cons = .safe
  · rw [if_pos hc, if_pos (.inr hm), if_neg fun h => h.2 hc]
  · rw [if_neg hc, if_pos hm]
    cases hready : i.ready <;> simp [hc]

/-- Settling reads READY as stored while DEMAND is FRESH or HELD, and clear otherwise (R37). -/
theorem State.settleInputs_ready (s : State) :
    s.settleInputs.ready = (s.intake.live .demand && s.intake.demand.ready) := by
  simp only [State.settleInputs, Intake.effDemand_eq]

/-- Settles O32: the regime a start leaves is the settled one but for its counts, which the claim does not name; the
clauses are then the three cases of step 1. -/
theorem safeIsEnteredAndLeftAtCycleStarts : Obligations.SafeIsEnteredAndLeftAtCycleStarts := by
  intro s k hreset hcycle hwaiting
  obtain ⟨a, w, u, hregime, -⟩ := s.startCycle_regime k
  refine ⟨_, exec_splitCycleStart hreset hcycle hwaiting, ?_⟩
  intro live
  have hready : s.settleInputs.ready = (live && s.intake.demand.ready) := s.settleInputs_ready
  have hcons : s.settleInputs.cons = s.consequence := rfl
  rw [hregime]
  refine ⟨fun hc hm => ?inStandby, fun hc hstandby hsafe => ?entered, fun hm => ?inSafe⟩
  case inStandby => rw [RegimeState.settle_of_safe_standby hc hm]; exact hm
  case entered =>
    rw [RegimeState.settle_enters_safe hc hstandby hsafe]
    exact ⟨rfl, rfl, rfl, rfl, rfl, rfl, rfl, rfl, rfl⟩
  case inSafe =>
    rw [RegimeState.settle_in_safe hm, hready, hcons]
    by_cases hleave : (live && s.intake.demand.ready) = false ∧ s.consequence ≠ .safe
    · rw [if_pos hleave]
      exact ⟨iff_of_true rfl hleave, fun h => absurd rfl h, fun _ => rfl⟩
    · rw [if_neg hleave]
      have hstays : s.regime.mode ≠ .standby := by rw [hm]; decide
      exact ⟨iff_of_false hstays hleave, fun _ => ⟨hm, rfl⟩, fun h => absurd h hstays⟩

end Sys2Proof.Machine
end

section
/-! PROOFS. The Watch Unit: the two tests of an evaluation (R147), the state table (R148), and what an evaluation does
to the watches. -/

namespace Sys2Proof.Machine

/-! ### The tests -/

/-- The true test, by the comparison of the entry. -/
theorem WatchEntry.isTrue_iff (e : WatchEntry) (v : Int) (r : Regime) :
    e.isTrue v r = true ↔ e.covers r = true ∧
      ((e.comparison = .above ∧ e.threshold ≤ v) ∨ (e.comparison = .below ∧ v ≤ e.threshold)) := by
  unfold WatchEntry.isTrue
  cases e.comparison <;> simp

/-- The false-past-hysteresis test, by the comparison of the entry. -/
theorem WatchEntry.isPast_iff (e : WatchEntry) (v : Int) (r : Regime) :
    e.isPast v r = true ↔ ¬e.covers r = true ∨ (e.comparison = .above ∧ v < e.threshold - e.hysteresis) ∨
      (e.comparison = .below ∧ e.threshold + e.hysteresis < v) := by
  unfold WatchEntry.isPast
  cases e.comparison <;> simp

/-- With a hysteresis of 0 or more no value is both true and past the hysteresis. -/
theorem WatchEntry.isTrue_eq_false_of_isPast {e : WatchEntry} {v : Int} {r : Regime} (hhyst : 0 ≤ e.hysteresis)
    (hpast : e.isPast v r = true) : e.isTrue v r = false := by
  refine Bool.eq_false_iff.2 fun htrue => ?_
  obtain ⟨hcovers, hinside⟩ := (e.isTrue_iff v r).1 htrue
  have houtside := ((e.isPast_iff v r).1 hpast).resolve_left (not_not_intro hcovers)
  cases hc : e.comparison with
  | above =>
    simp only [hc, true_and, reduceCtorEq, false_and, or_false] at hinside houtside
    omega
  | below =>
    simp only [hc, true_and, reduceCtorEq, false_and, false_or] at hinside houtside
    omega

/-! ### The state table -/

@[simp] theorem WatchState.evaluated_disabled (isTrue isPast : Bool) :
    WatchState.disabled.evaluated isTrue isPast = .disabled := rfl

@[simp] theorem WatchState.evaluated_waiting (isTrue isPast : Bool) :
    WatchState.waiting.evaluated isTrue isPast = if isTrue then .waiting else .idle := rfl

@[simp] theorem WatchState.evaluated_idle (isTrue isPast : Bool) :
    WatchState.idle.evaluated isTrue isPast = if isTrue then .matched else .idle := rfl

/-- Where the two tests exclude each other, the second alone decides the row of MATCHED. -/
theorem WatchState.evaluated_matched {isTrue isPast : Bool} (hexcl : isPast = true → isTrue = false) :
    WatchState.matched.evaluated isTrue isPast = if isPast then .idle else .matched := by
  cases isPast with
  | false => rfl
  | true => rw [hexcl rfl]; rfl

/-! ### The cells -/

/-- State and fired flag of a watch after an evaluation of its enabled entry: the flag is set at a move from IDLE to
MATCHED (R148, R149). -/
def WatchCell.evaluated (c : WatchCell) (isTrue isPast : Bool) : WatchCell :=
  ⟨c.state.evaluated isTrue isPast,
    c.fired || (decide (c.state = .idle) && decide (c.state.evaluated isTrue isPast = .matched))⟩

@[simp] theorem WatchCell.evaluated_state (c : WatchCell) (isTrue isPast : Bool) :
    (c.evaluated isTrue isPast).state = c.state.evaluated isTrue isPast := rfl

/-- After an evaluation the fired flag is set if it was, or if the watch was armed and found true. -/
theorem WatchCell.evaluated_fired_iff (c : WatchCell) (isTrue isPast : Bool) :
    (c.evaluated isTrue isPast).fired = true ↔ c.fired = true ∨ (c.state = .idle ∧ isTrue = true) := by
  have fires : c.state = .idle ∧ c.state.evaluated isTrue isPast = .matched ↔ c.state = .idle ∧ isTrue = true :=
    and_congr_right fun hidle => by rw [hidle]; cases isTrue <;> simp
  simp only [WatchCell.evaluated, Bool.or_eq_true, Bool.and_eq_true, decide_eq_true_eq, fires]

/-- An evaluation of an enabled entry writes its own cell only; a notice it offers touches none. -/
theorem WatchUnit.evaluateOne_cells {t : TableStore} {ev : Evaluation} {i : Fin 16} {e : WatchEntry} {v : Int}
    (hentry : t.watch[i] = .passing e) (henable : e.enable = true) (hvalue : ev.value e.quantity = some v)
    (m : Mode) (count : BitVec 16) (ix : Nat) (w : WatchUnit) :
    (w.evaluateOne t ev m count ix i).cells =
      w.cells.set i (w.cells[i].evaluated (e.isTrue v m.regime) (e.isPast v m.regime)) := by
  simp only [WatchUnit.evaluateOne, hentry, hvalue, henable, if_true]
  split
  · rw [WatchUnit.offer_cells]; rfl
  · rfl

/-! ### The obligation -/

/-- Settles O41: the cell written is that of the state table, read row by row through the two tests. -/
theorem evaluationMovesTheWatch : Obligations.EvaluationMovesTheWatch := by
  intro t ev m count ix w i e v hentry henable hhyst hvalue u inside past covered
  have hcovered : covered ↔ e.covers m.regime = true := by cases m <;> exact Iff.rfl
  have htrue : covered ∧ inside ↔ e.isTrue v m.regime = true := by rw [hcovered, e.isTrue_iff v]
  have hpast : ¬covered ∨ past ↔ e.isPast v m.regime = true := by rw [hcovered, e.isPast_iff v]
  have hcells : u.cells = w.cells.set i (w.cells[i].evaluated (e.isTrue v m.regime) (e.isPast v m.regime)) :=
    w.evaluateOne_cells hentry henable hvalue m count ix
  have hcell : u.cells[i] = w.cells[i].evaluated (e.isTrue v m.regime) (e.isPast v m.regime) := by simp [hcells]
  have hmatched := WatchState.evaluated_matched fun h => e.isTrue_eq_false_of_isPast (v := v) (r := m.regime) hhyst h
  rw [hcell, WatchCell.evaluated_state, WatchCell.evaluated_fired_iff, htrue, hpast]
  refine ⟨fun hs => ?disabled, fun hs => ?waiting, fun hs => ?idle, fun hs => ?matched, Iff.rfl, fun j hj => ?others⟩
  case disabled => rw [hs]; rfl
  case waiting =>
    rw [hs, WatchState.evaluated_waiting]
    exact ⟨fun h => if_pos h, fun h => if_neg h⟩
  case idle =>
    rw [hs, WatchState.evaluated_idle]
    exact ⟨fun h => if_pos h, fun h => if_neg h⟩
  case matched =>
    rw [hs, hmatched]
    exact ⟨fun h => if_pos h, fun hc hp => if_neg fun h => (hpast.2 h).elim (fun hn => hn hc) hp⟩
  case others =>
    have hne : i.val ≠ j.val := fun h => hj (Fin.ext h.symm)
    simp [hcells, hne]

end Sys2Proof.Machine
end

section
/-! PROOFS. What each operation leaves unchanged: for every operation that several commands share, the blocks of the
state (and the parts of a block) that are after it as they were before. Each lemma is a conjunction, which simp uses
clause by clause. -/

namespace Sys2Proof.Machine

/-! ### Faults, slots, ports and queues -/

@[simp] theorem State.raiseFault_keeps (s : State) (i : Fin 12) :
    (s.raiseFault i).tables = s.tables ∧ (s.raiseFault i).intake = s.intake ∧ (s.raiseFault i).limits = s.limits ∧
    (s.raiseFault i).split = s.split ∧ (s.raiseFault i).regime = s.regime ∧ (s.raiseFault i).watch = s.watch ∧
    (s.raiseFault i).ports = s.ports ∧ (s.raiseFault i).forward = s.forward ∧ (s.raiseFault i).mgmt = s.mgmt ∧
    (s.raiseFault i).strapId = s.strapId ∧ (s.raiseFault i).strapRate = s.strapRate ∧
    (s.raiseFault i).resetApplied = s.resetApplied ∧ (s.raiseFault i).freeIx = s.freeIx ∧
    (s.raiseFault i).pending = s.pending := by
  simp [State.raiseFault]

@[simp] theorem State.removeFault_keeps (s : State) (i : Fin 12) :
    (s.removeFault i).tables = s.tables ∧ (s.removeFault i).intake = s.intake ∧ (s.removeFault i).limits = s.limits ∧
    (s.removeFault i).split = s.split ∧ (s.removeFault i).regime = s.regime ∧ (s.removeFault i).watch = s.watch ∧
    (s.removeFault i).ports = s.ports ∧ (s.removeFault i).forward = s.forward ∧ (s.removeFault i).mgmt = s.mgmt ∧
    (s.removeFault i).strapId = s.strapId ∧ (s.removeFault i).strapRate = s.strapRate ∧
    (s.removeFault i).resetApplied = s.resetApplied ∧ (s.removeFault i).freeIx = s.freeIx ∧
    (s.removeFault i).pending = s.pending := by
  simp [State.removeFault]

@[simp] theorem State.handFlag_keeps (s : State) (i : Fin 12) (b : Bool) :
    (s.handFlag i b).tables = s.tables ∧ (s.handFlag i b).intake = s.intake ∧ (s.handFlag i b).limits = s.limits ∧
    (s.handFlag i b).split = s.split ∧ (s.handFlag i b).regime = s.regime ∧ (s.handFlag i b).watch = s.watch ∧
    (s.handFlag i b).ports = s.ports ∧ (s.handFlag i b).forward = s.forward ∧ (s.handFlag i b).mgmt = s.mgmt ∧
    (s.handFlag i b).strapId = s.strapId ∧ (s.handFlag i b).strapRate = s.strapRate ∧
    (s.handFlag i b).resetApplied = s.resetApplied ∧ (s.handFlag i b).freeIx = s.freeIx ∧
    (s.handFlag i b).pending = s.pending := by
  cases b <;> simp [State.handFlag]

@[simp] theorem State.place_keeps (s : State) (n : SlotName) (c : Content) :
    (s.place n c).tables = s.tables ∧ (s.place n c).intake = s.intake ∧ (s.place n c).limits = s.limits ∧
    (s.place n c).split = s.split ∧ (s.place n c).regime = s.regime ∧ (s.place n c).faults = s.faults ∧
    (s.place n c).watch = s.watch ∧ (s.place n c).forward = s.forward ∧ (s.place n c).mgmt = s.mgmt ∧
    (s.place n c).strapId = s.strapId ∧ (s.place n c).strapRate = s.strapRate ∧
    (s.place n c).resetApplied = s.resetApplied ∧ (s.place n c).freeIx = s.freeIx ∧
    (s.place n c).pending = s.pending := by
  simp [State.place]

@[simp] theorem State.setPort_keeps (s : State) (p : Port) (x : PortState) :
    (s.setPort p x).tables = s.tables ∧ (s.setPort p x).intake = s.intake ∧ (s.setPort p x).limits = s.limits ∧
    (s.setPort p x).split = s.split ∧ (s.setPort p x).regime = s.regime ∧ (s.setPort p x).faults = s.faults ∧
    (s.setPort p x).watch = s.watch ∧ (s.setPort p x).forward = s.forward ∧ (s.setPort p x).mgmt = s.mgmt ∧
    (s.setPort p x).strapId = s.strapId ∧ (s.setPort p x).strapRate = s.strapRate ∧
    (s.setPort p x).resetApplied = s.resetApplied ∧ (s.setPort p x).freeIx = s.freeIx ∧
    (s.setPort p x).pending = s.pending ∧ (s.setPort p x).ports.slots = s.ports.slots ∧
    (s.setPort p x).ports.counters = s.ports.counters := by
  simp [State.setPort]

@[simp] theorem State.countReceived_keeps (s : State) (p : Port) :
    (s.countReceived p).tables = s.tables ∧ (s.countReceived p).intake = s.intake ∧
    (s.countReceived p).limits = s.limits ∧ (s.countReceived p).split = s.split ∧
    (s.countReceived p).regime = s.regime ∧ (s.countReceived p).faults = s.faults ∧
    (s.countReceived p).watch = s.watch ∧ (s.countReceived p).forward = s.forward ∧
    (s.countReceived p).mgmt = s.mgmt ∧ (s.countReceived p).strapId = s.strapId ∧
    (s.countReceived p).strapRate = s.strapRate ∧ (s.countReceived p).resetApplied = s.resetApplied ∧
    (s.countReceived p).freeIx = s.freeIx ∧ (s.countReceived p).pending = s.pending ∧
    (s.countReceived p).ports.slots = s.ports.slots ∧ (s.countReceived p).ports.counters = s.ports.counters := by
  simp [State.countReceived]

@[simp] theorem State.failAttempt_keeps (s : State) (p : Port) (a : Attempt) :
    (s.failAttempt p a).tables = s.tables ∧ (s.failAttempt p a).intake = s.intake ∧
    (s.failAttempt p a).limits = s.limits ∧ (s.failAttempt p a).split = s.split ∧
    (s.failAttempt p a).regime = s.regime ∧ (s.failAttempt p a).faults = s.faults ∧
    (s.failAttempt p a).watch = s.watch ∧ (s.failAttempt p a).forward = s.forward ∧
    (s.failAttempt p a).mgmt = s.mgmt ∧ (s.failAttempt p a).strapId = s.strapId ∧
    (s.failAttempt p a).strapRate = s.strapRate ∧ (s.failAttempt p a).resetApplied = s.resetApplied ∧
    (s.failAttempt p a).freeIx = s.freeIx ∧ (s.failAttempt p a).pending = s.pending ∧
    (s.failAttempt p a).ports.counters = s.ports.counters := by
  simp [State.failAttempt]

@[simp] theorem State.offerForward_keeps (s : State) (p : Port) (f : Frame) :
    (s.offerForward p f).tables = s.tables ∧ (s.offerForward p f).intake = s.intake ∧
    (s.offerForward p f).limits = s.limits ∧ (s.offerForward p f).split = s.split ∧
    (s.offerForward p f).regime = s.regime ∧ (s.offerForward p f).faults = s.faults ∧
    (s.offerForward p f).watch = s.watch ∧ (s.offerForward p f).ports = s.ports ∧ (s.offerForward p f).mgmt = s.mgmt ∧
    (s.offerForward p f).strapId = s.strapId ∧ (s.offerForward p f).strapRate = s.strapRate ∧
    (s.offerForward p f).resetApplied = s.resetApplied ∧ (s.offerForward p f).freeIx = s.freeIx ∧
    (s.offerForward p f).pending = s.pending := by
  rcases s.offerForward_cases p f with ⟨-, h⟩ | ⟨-, -, h⟩ | ⟨-, -, h⟩ <;> simp [h]

@[simp] theorem State.dequeue_keeps (s : State) (p : Port) (h : Holder) :
    (s.dequeue p h).tables = s.tables ∧ (s.dequeue p h).intake = s.intake ∧ (s.dequeue p h).limits = s.limits ∧
    (s.dequeue p h).split = s.split ∧ (s.dequeue p h).regime = s.regime ∧ (s.dequeue p h).faults = s.faults ∧
    (s.dequeue p h).ports = s.ports ∧ (s.dequeue p h).mgmt = s.mgmt ∧ (s.dequeue p h).strapId = s.strapId ∧
    (s.dequeue p h).strapRate = s.strapRate ∧ (s.dequeue p h).resetApplied = s.resetApplied ∧
    (s.dequeue p h).freeIx = s.freeIx ∧ (s.dequeue p h).pending = s.pending ∧
    (s.dequeue p h).watch.cells = s.watch.cells ∧ (s.dequeue p h).watch.overflow = s.watch.overflow := by
  cases h <;> simp [State.dequeue]

@[simp] theorem State.enterBusOff_keeps (s : State) (p : Port) :
    (s.enterBusOff p).tables = s.tables ∧ (s.enterBusOff p).intake = s.intake ∧ (s.enterBusOff p).limits = s.limits ∧
    (s.enterBusOff p).split = s.split ∧ (s.enterBusOff p).regime = s.regime ∧ (s.enterBusOff p).watch = s.watch ∧
    (s.enterBusOff p).mgmt = s.mgmt ∧ (s.enterBusOff p).strapId = s.strapId ∧
    (s.enterBusOff p).strapRate = s.strapRate ∧ (s.enterBusOff p).resetApplied = s.resetApplied ∧
    (s.enterBusOff p).freeIx = s.freeIx ∧ (s.enterBusOff p).pending = s.pending ∧
    (s.enterBusOff p).ports.slots = s.ports.slots ∧ (s.enterBusOff p).ports.counters = s.ports.counters := by
  cases p <;> simp [State.enterBusOff]

@[simp] theorem State.leaveBusOff_keeps (s : State) (p : Port) :
    (s.leaveBusOff p).tables = s.tables ∧ (s.leaveBusOff p).intake = s.intake ∧ (s.leaveBusOff p).limits = s.limits ∧
    (s.leaveBusOff p).split = s.split ∧ (s.leaveBusOff p).regime = s.regime ∧ (s.leaveBusOff p).watch = s.watch ∧
    (s.leaveBusOff p).forward = s.forward ∧ (s.leaveBusOff p).mgmt = s.mgmt ∧ (s.leaveBusOff p).strapId = s.strapId ∧
    (s.leaveBusOff p).strapRate = s.strapRate ∧ (s.leaveBusOff p).resetApplied = s.resetApplied ∧
    (s.leaveBusOff p).freeIx = s.freeIx ∧ (s.leaveBusOff p).pending = s.pending ∧
    (s.leaveBusOff p).ports.slots = s.ports.slots ∧ (s.leaveBusOff p).ports.counters = s.ports.counters := by
  cases p <;> simp [State.leaveBusOff]

@[simp] theorem State.recessiveRun_keeps (s : State) (p : Port) :
    (s.recessiveRun p).tables = s.tables ∧ (s.recessiveRun p).intake = s.intake ∧
    (s.recessiveRun p).limits = s.limits ∧ (s.recessiveRun p).split = s.split ∧ (s.recessiveRun p).regime = s.regime ∧
    (s.recessiveRun p).watch = s.watch ∧ (s.recessiveRun p).forward = s.forward ∧ (s.recessiveRun p).mgmt = s.mgmt ∧
    (s.recessiveRun p).strapId = s.strapId ∧ (s.recessiveRun p).strapRate = s.strapRate ∧
    (s.recessiveRun p).resetApplied = s.resetApplied ∧ (s.recessiveRun p).freeIx = s.freeIx ∧
    (s.recessiveRun p).pending = s.pending ∧ (s.recessiveRun p).ports.slots = s.ports.slots ∧
    (s.recessiveRun p).ports.counters = s.ports.counters := by
  rcases s.recessiveRun_cases p with ⟨-, h⟩ | ⟨-, -, h⟩ | ⟨-, -, h⟩ <;> simp [h]

/-! ### Watches and streams -/

@[simp] theorem State.evaluateWatches_keeps (s : State) (ev : Evaluation) (m : Mode) :
    (s.evaluateWatches ev m).tables = s.tables ∧ (s.evaluateWatches ev m).intake = s.intake ∧
    (s.evaluateWatches ev m).limits = s.limits ∧ (s.evaluateWatches ev m).split = s.split ∧
    (s.evaluateWatches ev m).regime = s.regime ∧ (s.evaluateWatches ev m).faults = s.faults ∧
    (s.evaluateWatches ev m).ports = s.ports ∧ (s.evaluateWatches ev m).forward = s.forward ∧
    (s.evaluateWatches ev m).mgmt = s.mgmt ∧ (s.evaluateWatches ev m).strapId = s.strapId ∧
    (s.evaluateWatches ev m).strapRate = s.strapRate ∧ (s.evaluateWatches ev m).resetApplied = s.resetApplied ∧
    (s.evaluateWatches ev m).pending = s.pending := by
  simp [State.evaluateWatches]

@[simp] theorem State.readWatchTable_keeps (s : State) :
    s.readWatchTable.tables = s.tables ∧ s.readWatchTable.intake = s.intake ∧
    s.readWatchTable.limits = s.limits ∧ s.readWatchTable.split = s.split ∧ s.readWatchTable.regime = s.regime ∧
    s.readWatchTable.faults = s.faults ∧ s.readWatchTable.ports = s.ports ∧
    s.readWatchTable.forward = s.forward ∧ s.readWatchTable.mgmt = s.mgmt ∧
    s.readWatchTable.strapId = s.strapId ∧ s.readWatchTable.strapRate = s.strapRate ∧
    s.readWatchTable.resetApplied = s.resetApplied ∧ s.readWatchTable.freeIx = s.freeIx ∧
    s.readWatchTable.pending = s.pending ∧ s.readWatchTable.watch.queue = s.watch.queue ∧
    s.readWatchTable.watch.overflow = s.watch.overflow := by
  simp [State.readWatchTable]

@[simp] theorem State.setStream_keeps (s : State) (r : Role) (m : StreamMeta) :
    (s.setStream r m).tables = s.tables ∧ (s.setStream r m).limits = s.limits ∧ (s.setStream r m).split = s.split ∧
    (s.setStream r m).regime = s.regime ∧ (s.setStream r m).faults = s.faults ∧ (s.setStream r m).watch = s.watch ∧
    (s.setStream r m).ports = s.ports ∧ (s.setStream r m).forward = s.forward ∧ (s.setStream r m).mgmt = s.mgmt ∧
    (s.setStream r m).strapId = s.strapId ∧ (s.setStream r m).strapRate = s.strapRate ∧
    (s.setStream r m).resetApplied = s.resetApplied ∧ (s.setStream r m).freeIx = s.freeIx ∧
    (s.setStream r m).pending = s.pending ∧ (s.setStream r m).intake.fillIn = s.intake.fillIn ∧
    (s.setStream r m).intake.demand = s.intake.demand ∧ (s.setStream r m).intake.battery = s.intake.battery ∧
    (s.setStream r m).intake.inverter = s.intake.inverter ∧ (s.setStream r m).intake.engine = s.intake.engine ∧
    (s.setStream r m).intake.clutch = s.intake.clutch ∧ (s.setStream r m).intake.brake = s.intake.brake := by
  simp [State.setStream]

@[simp] theorem State.discardFrame_keeps (s : State) (r : Role) (why : DiscardReason) :
    (s.discardFrame r why).tables = s.tables ∧ (s.discardFrame r why).limits = s.limits ∧
    (s.discardFrame r why).split = s.split ∧ (s.discardFrame r why).regime = s.regime ∧
    (s.discardFrame r why).faults = s.faults ∧ (s.discardFrame r why).watch = s.watch ∧
    (s.discardFrame r why).ports = s.ports ∧ (s.discardFrame r why).forward = s.forward ∧
    (s.discardFrame r why).mgmt = s.mgmt ∧ (s.discardFrame r why).strapId = s.strapId ∧
    (s.discardFrame r why).strapRate = s.strapRate ∧ (s.discardFrame r why).resetApplied = s.resetApplied ∧
    (s.discardFrame r why).freeIx = s.freeIx ∧ (s.discardFrame r why).pending = s.pending ∧
    (s.discardFrame r why).intake.fillIn = s.intake.fillIn ∧ (s.discardFrame r why).intake.demand = s.intake.demand ∧
    (s.discardFrame r why).intake.battery = s.intake.battery ∧
    (s.discardFrame r why).intake.inverter = s.intake.inverter ∧
    (s.discardFrame r why).intake.engine = s.intake.engine ∧ (s.discardFrame r why).intake.clutch = s.intake.clutch ∧
    (s.discardFrame r why).intake.brake = s.intake.brake := by
  simp [State.discardFrame]

@[simp] theorem State.lapse_keeps (s : State) (r : Role) :
    (s.lapse r).tables = s.tables ∧ (s.lapse r).limits = s.limits ∧ (s.lapse r).split = s.split ∧
    (s.lapse r).regime = s.regime ∧ (s.lapse r).watch = s.watch ∧ (s.lapse r).ports = s.ports ∧
    (s.lapse r).forward = s.forward ∧ (s.lapse r).mgmt = s.mgmt ∧ (s.lapse r).strapId = s.strapId ∧
    (s.lapse r).strapRate = s.strapRate ∧ (s.lapse r).resetApplied = s.resetApplied ∧ (s.lapse r).freeIx = s.freeIx ∧
    (s.lapse r).pending = s.pending ∧ (s.lapse r).intake.fillIn = s.intake.fillIn ∧
    (s.lapse r).intake.demand = s.intake.demand ∧ (s.lapse r).intake.battery = s.intake.battery ∧
    (s.lapse r).intake.inverter = s.intake.inverter ∧ (s.lapse r).intake.engine = s.intake.engine ∧
    (s.lapse r).intake.clutch = s.intake.clutch ∧ (s.lapse r).intake.brake = s.intake.brake := by
  simp [State.lapse]

@[simp] theorem State.deadlineExpired_keeps (s : State) (r : Role) :
    (s.deadlineExpired r).tables = s.tables ∧ (s.deadlineExpired r).limits = s.limits ∧
    (s.deadlineExpired r).split = s.split ∧ (s.deadlineExpired r).regime = s.regime ∧
    (s.deadlineExpired r).watch = s.watch ∧ (s.deadlineExpired r).ports = s.ports ∧
    (s.deadlineExpired r).forward = s.forward ∧ (s.deadlineExpired r).mgmt = s.mgmt ∧
    (s.deadlineExpired r).strapId = s.strapId ∧ (s.deadlineExpired r).strapRate = s.strapRate ∧
    (s.deadlineExpired r).resetApplied = s.resetApplied ∧ (s.deadlineExpired r).freeIx = s.freeIx ∧
    (s.deadlineExpired r).pending = s.pending ∧ (s.deadlineExpired r).intake.demand = s.intake.demand ∧
    (s.deadlineExpired r).intake.battery = s.intake.battery ∧
    (s.deadlineExpired r).intake.inverter = s.intake.inverter ∧
    (s.deadlineExpired r).intake.engine = s.intake.engine ∧ (s.deadlineExpired r).intake.clutch = s.intake.clutch ∧
    (s.deadlineExpired r).intake.brake = s.intake.brake := by
  simp only [State.deadlineExpired]; split_ifs <;> simp

@[simp] theorem State.storeFrame_keeps (s : State) (r : Role) (d : List Byte) :
    (s.storeFrame r d).tables = s.tables ∧ (s.storeFrame r d).limits = s.limits ∧ (s.storeFrame r d).split = s.split ∧
    (s.storeFrame r d).regime = s.regime ∧ (s.storeFrame r d).watch = s.watch ∧ (s.storeFrame r d).ports = s.ports ∧
    (s.storeFrame r d).forward = s.forward ∧ (s.storeFrame r d).mgmt = s.mgmt ∧
    (s.storeFrame r d).strapId = s.strapId ∧ (s.storeFrame r d).strapRate = s.strapRate ∧
    (s.storeFrame r d).resetApplied = s.resetApplied ∧ (s.storeFrame r d).freeIx = s.freeIx ∧
    (s.storeFrame r d).pending = s.pending := by
  rw [State.storeFrame_frame]; simp only [and_self]

@[simp] theorem State.issueStart_keeps (s : State) (k : CycleKind) :
    (s.issueStart k).tables = s.tables ∧ (s.issueStart k).intake = s.intake ∧ (s.issueStart k).limits = s.limits ∧
    (s.issueStart k).regime = s.regime ∧ (s.issueStart k).faults = s.faults ∧ (s.issueStart k).watch = s.watch ∧
    (s.issueStart k).ports = s.ports ∧ (s.issueStart k).forward = s.forward ∧ (s.issueStart k).mgmt = s.mgmt ∧
    (s.issueStart k).strapId = s.strapId ∧ (s.issueStart k).strapRate = s.strapRate ∧
    (s.issueStart k).resetApplied = s.resetApplied ∧ (s.issueStart k).freeIx = s.freeIx ∧
    (s.issueStart k).pending = s.pending ∧ (s.issueStart k).split.band = s.split.band ∧
    (s.issueStart k).split.recompute = s.split.recompute ∧ (s.issueStart k).split.prev = s.split.prev ∧
    (s.issueStart k).split.prevWanted = s.split.prevWanted ∧ (s.issueStart k).split.count = s.split.count ∧
    (s.issueStart k).split.history = s.split.history ∧ (s.issueStart k).split.cycle = s.split.cycle ∧
    (s.issueStart k).split.started = s.split.started := by
  simp [State.issueStart]

@[simp] theorem State.handAcceptance_keeps (s : State) (r : Role) :
    (s.handAcceptance r).tables = s.tables ∧ (s.handAcceptance r).intake = s.intake ∧
    (s.handAcceptance r).ports = s.ports ∧ (s.handAcceptance r).forward = s.forward ∧
    (s.handAcceptance r).mgmt = s.mgmt ∧ (s.handAcceptance r).strapId = s.strapId ∧
    (s.handAcceptance r).strapRate = s.strapRate ∧ (s.handAcceptance r).resetApplied = s.resetApplied ∧
    (s.handAcceptance r).pending = s.pending := by
  rw [State.handAcceptance_frame]; simp only [and_self]

/-! ### Swap and cycle -/

@[simp] theorem State.adopt_keeps (s : State) (b : BankName) :
    (s.adopt b).intake = s.intake ∧ (s.adopt b).faults = s.faults ∧ (s.adopt b).watch = s.watch ∧
    (s.adopt b).ports = s.ports ∧ (s.adopt b).forward = s.forward ∧ (s.adopt b).mgmt = s.mgmt ∧
    (s.adopt b).strapId = s.strapId ∧ (s.adopt b).strapRate = s.strapRate ∧
    (s.adopt b).resetApplied = s.resetApplied ∧ (s.adopt b).freeIx = s.freeIx ∧ (s.adopt b).pending = s.pending ∧
    (s.adopt b).split.band = s.split.band ∧ (s.adopt b).split.prev = s.split.prev ∧
    (s.adopt b).split.prevWanted = s.split.prevWanted ∧ (s.adopt b).split.count = s.split.count ∧
    (s.adopt b).split.history = s.split.history ∧ (s.adopt b).split.waiting = s.split.waiting ∧
    (s.adopt b).split.started = s.split.started := by
  simp [State.adopt]

@[simp] theorem State.takeSwap_keeps (s : State) :
    s.takeSwap.intake = s.intake ∧ s.takeSwap.faults = s.faults ∧ s.takeSwap.watch = s.watch ∧
    s.takeSwap.ports = s.ports ∧ s.takeSwap.forward = s.forward ∧ s.takeSwap.mgmt = s.mgmt ∧
    s.takeSwap.strapId = s.strapId ∧ s.takeSwap.strapRate = s.strapRate ∧
    s.takeSwap.resetApplied = s.resetApplied ∧ s.takeSwap.freeIx = s.freeIx ∧ s.takeSwap.pending = s.pending ∧
    s.takeSwap.split.band = s.split.band ∧ s.takeSwap.split.prev = s.split.prev ∧
    s.takeSwap.split.prevWanted = s.split.prevWanted ∧ s.takeSwap.split.count = s.split.count ∧
    s.takeSwap.split.history = s.split.history ∧ s.takeSwap.split.waiting = s.split.waiting ∧
    s.takeSwap.split.started = s.split.started := by
  simp only [State.takeSwap]; split <;> simp

@[simp] theorem State.swapAtStart_keeps (s : State) :
    s.swapAtStart.intake = s.intake ∧ s.swapAtStart.faults = s.faults ∧ s.swapAtStart.watch = s.watch ∧
    s.swapAtStart.ports = s.ports ∧ s.swapAtStart.forward = s.forward ∧ s.swapAtStart.mgmt = s.mgmt ∧
    s.swapAtStart.strapId = s.strapId ∧ s.swapAtStart.strapRate = s.strapRate ∧
    s.swapAtStart.resetApplied = s.resetApplied ∧ s.swapAtStart.freeIx = s.freeIx ∧
    s.swapAtStart.pending = s.pending ∧ s.swapAtStart.split.band = s.split.band ∧
    s.swapAtStart.split.prev = s.split.prev ∧ s.swapAtStart.split.prevWanted = s.split.prevWanted ∧
    s.swapAtStart.split.count = s.split.count ∧ s.swapAtStart.split.history = s.split.history ∧
    s.swapAtStart.split.waiting = s.split.waiting ∧ s.swapAtStart.split.started = s.split.started := by
  simp only [State.swapAtStart]; split <;> simp

@[simp] theorem State.settle_keeps (s : State) :
    s.settle.tables = s.tables ∧ s.settle.intake = s.intake ∧ s.settle.limits = s.limits ∧
    s.settle.split = s.split ∧ s.settle.faults = s.faults ∧ s.settle.watch = s.watch ∧
    s.settle.ports = s.ports ∧ s.settle.forward = s.forward ∧ s.settle.mgmt = s.mgmt ∧
    s.settle.strapId = s.strapId ∧ s.settle.strapRate = s.strapRate ∧ s.settle.resetApplied = s.resetApplied ∧
    s.settle.freeIx = s.freeIx ∧ s.settle.pending = s.pending := by
  simp [State.settle]

@[simp] theorem State.updateLimits_keeps (s : State) :
    s.updateLimits.tables = s.tables ∧ s.updateLimits.intake = s.intake ∧ s.updateLimits.split = s.split ∧
    s.updateLimits.regime = s.regime ∧ s.updateLimits.faults = s.faults ∧ s.updateLimits.watch = s.watch ∧
    s.updateLimits.ports = s.ports ∧ s.updateLimits.forward = s.forward ∧ s.updateLimits.mgmt = s.mgmt ∧
    s.updateLimits.strapId = s.strapId ∧ s.updateLimits.strapRate = s.strapRate ∧
    s.updateLimits.resetApplied = s.resetApplied ∧ s.updateLimits.freeIx = s.freeIx ∧
    s.updateLimits.pending = s.pending ∧ s.updateLimits.limits.static = s.limits.static := by
  simp [State.updateLimits, State.recordsAtStart]

@[simp] theorem State.startCycle_keeps (s : State) (k : CycleKind) :
    (s.startCycle k).intake = s.intake ∧ (s.startCycle k).faults = s.faults ∧ (s.startCycle k).ports = s.ports ∧
    (s.startCycle k).forward = s.forward ∧ (s.startCycle k).mgmt = s.mgmt ∧ (s.startCycle k).strapId = s.strapId ∧
    (s.startCycle k).strapRate = s.strapRate ∧ (s.startCycle k).resetApplied = s.resetApplied ∧
    (s.startCycle k).freeIx = s.freeIx ∧ (s.startCycle k).pending = s.pending ∧
    (s.startCycle k).split.band = s.split.band ∧ (s.startCycle k).split.prev = s.split.prev ∧
    (s.startCycle k).split.prevWanted = s.split.prevWanted ∧ (s.startCycle k).split.count = s.split.count ∧
    (s.startCycle k).split.history = s.split.history := by
  simp [State.startCycle]

@[simp] theorem State.fillSlots_keeps (s : State) (cyc : CycleInputs) (x : CycleResult) :
    (s.fillSlots cyc x).tables = s.tables ∧ (s.fillSlots cyc x).intake = s.intake ∧
    (s.fillSlots cyc x).limits = s.limits ∧ (s.fillSlots cyc x).split = s.split ∧
    (s.fillSlots cyc x).regime = s.regime ∧ (s.fillSlots cyc x).faults = s.faults ∧
    (s.fillSlots cyc x).watch = s.watch ∧ (s.fillSlots cyc x).forward = s.forward ∧
    (s.fillSlots cyc x).mgmt = s.mgmt ∧ (s.fillSlots cyc x).strapId = s.strapId ∧
    (s.fillSlots cyc x).strapRate = s.strapRate ∧ (s.fillSlots cyc x).resetApplied = s.resetApplied ∧
    (s.fillSlots cyc x).freeIx = s.freeIx ∧ (s.fillSlots cyc x).pending = s.pending := by
  rw [State.fillSlots_frame]; simp

@[simp] theorem State.completeRegime_keeps (s : State) (cyc : CycleInputs) (x : CycleResult) :
    (s.completeRegime cyc x).tables = s.tables ∧ (s.completeRegime cyc x).intake = s.intake ∧
    (s.completeRegime cyc x).limits = s.limits ∧ (s.completeRegime cyc x).split = s.split ∧
    (s.completeRegime cyc x).faults = s.faults ∧ (s.completeRegime cyc x).watch = s.watch ∧
    (s.completeRegime cyc x).ports = s.ports ∧ (s.completeRegime cyc x).forward = s.forward ∧
    (s.completeRegime cyc x).mgmt = s.mgmt ∧ (s.completeRegime cyc x).strapId = s.strapId ∧
    (s.completeRegime cyc x).strapRate = s.strapRate ∧ (s.completeRegime cyc x).resetApplied = s.resetApplied ∧
    (s.completeRegime cyc x).freeIx = s.freeIx ∧ (s.completeRegime cyc x).pending = s.pending := by
  simp [State.completeRegime]

@[simp] theorem State.completeCycle_keeps (s : State) (cyc : CycleInputs) :
    (s.completeCycle cyc).intake = s.intake ∧ (s.completeCycle cyc).limits = s.limits ∧
    (s.completeCycle cyc).faults = s.faults ∧ (s.completeCycle cyc).forward = s.forward ∧
    (s.completeCycle cyc).mgmt = s.mgmt ∧ (s.completeCycle cyc).strapId = s.strapId ∧
    (s.completeCycle cyc).strapRate = s.strapRate ∧ (s.completeCycle cyc).resetApplied = s.resetApplied ∧
    (s.completeCycle cyc).pending = s.pending := by
  simp [State.completeCycle]

@[simp] theorem State.commitPassed_keeps (s : State) :
    s.commitPassed.intake = s.intake ∧ s.commitPassed.faults = s.faults ∧ s.commitPassed.watch = s.watch ∧
    s.commitPassed.ports = s.ports ∧ s.commitPassed.forward = s.forward ∧ s.commitPassed.mgmt = s.mgmt ∧
    s.commitPassed.strapId = s.strapId ∧ s.commitPassed.strapRate = s.strapRate ∧
    s.commitPassed.resetApplied = s.resetApplied ∧ s.commitPassed.freeIx = s.freeIx ∧
    s.commitPassed.pending = s.pending ∧ s.commitPassed.split.band = s.split.band ∧
    s.commitPassed.split.prev = s.split.prev ∧ s.commitPassed.split.prevWanted = s.split.prevWanted ∧
    s.commitPassed.split.count = s.split.count ∧ s.commitPassed.split.history = s.split.history ∧
    s.commitPassed.split.waiting = s.split.waiting ∧ s.commitPassed.split.started = s.split.started := by
  simp only [State.commitPassed]; split <;> simp

@[simp] theorem State.pinResetPassed_keeps (s : State) :
    s.pinResetPassed.intake = s.intake ∧ s.pinResetPassed.faults = s.faults ∧ s.pinResetPassed.watch = s.watch ∧
    s.pinResetPassed.ports = s.ports ∧ s.pinResetPassed.forward = s.forward ∧ s.pinResetPassed.mgmt = s.mgmt ∧
    s.pinResetPassed.strapId = s.strapId ∧ s.pinResetPassed.strapRate = s.strapRate ∧
    s.pinResetPassed.resetApplied = s.resetApplied ∧ s.pinResetPassed.freeIx = s.freeIx ∧
    s.pinResetPassed.pending = s.pending ∧ s.pinResetPassed.split.band = s.split.band ∧
    s.pinResetPassed.split.prev = s.split.prev ∧ s.pinResetPassed.split.prevWanted = s.split.prevWanted ∧
    s.pinResetPassed.split.count = s.split.count ∧ s.pinResetPassed.split.history = s.split.history ∧
    s.pinResetPassed.split.waiting = s.split.waiting ∧ s.pinResetPassed.split.started = s.split.started := by
  simp only [State.pinResetPassed]; split <;> simp

@[simp] theorem State.crankExpiry_keeps (s : State) :
    s.crankExpiry.tables = s.tables ∧ s.crankExpiry.intake = s.intake ∧ s.crankExpiry.limits = s.limits ∧
    s.crankExpiry.split = s.split ∧ s.crankExpiry.watch = s.watch ∧ s.crankExpiry.ports = s.ports ∧
    s.crankExpiry.forward = s.forward ∧ s.crankExpiry.mgmt = s.mgmt ∧ s.crankExpiry.strapId = s.strapId ∧
    s.crankExpiry.strapRate = s.strapRate ∧ s.crankExpiry.resetApplied = s.resetApplied ∧
    s.crankExpiry.freeIx = s.freeIx ∧ s.crankExpiry.pending = s.pending := by
  simp only [State.crankExpiry]; split <;> (try split) <;> simp

/-! ### Management -/

@[simp] theorem State.setRequester_keeps (s : State) (q : Requester) (x : RequesterState) :
    (s.setRequester q x).tables = s.tables ∧ (s.setRequester q x).intake = s.intake ∧
    (s.setRequester q x).limits = s.limits ∧ (s.setRequester q x).split = s.split ∧
    (s.setRequester q x).regime = s.regime ∧ (s.setRequester q x).faults = s.faults ∧
    (s.setRequester q x).watch = s.watch ∧ (s.setRequester q x).ports = s.ports ∧
    (s.setRequester q x).forward = s.forward ∧ (s.setRequester q x).strapId = s.strapId ∧
    (s.setRequester q x).strapRate = s.strapRate ∧ (s.setRequester q x).resetApplied = s.resetApplied ∧
    (s.setRequester q x).freeIx = s.freeIx ∧ (s.setRequester q x).pending = s.pending := by
  simp [State.setRequester]

@[simp] theorem State.holdEntry_keeps (s : State) (q : Requester) (h : HeldEntry) :
    (s.holdEntry q h).tables = s.tables ∧ (s.holdEntry q h).intake = s.intake ∧ (s.holdEntry q h).limits = s.limits ∧
    (s.holdEntry q h).split = s.split ∧ (s.holdEntry q h).regime = s.regime ∧ (s.holdEntry q h).faults = s.faults ∧
    (s.holdEntry q h).watch = s.watch ∧ (s.holdEntry q h).ports = s.ports ∧ (s.holdEntry q h).forward = s.forward ∧
    (s.holdEntry q h).strapId = s.strapId ∧ (s.holdEntry q h).strapRate = s.strapRate ∧
    (s.holdEntry q h).resetApplied = s.resetApplied ∧ (s.holdEntry q h).freeIx = s.freeIx ∧
    (s.holdEntry q h).pending = s.pending := by
  simp [State.holdEntry]

@[simp] theorem State.emptyHold_keeps (s : State) (q : Requester) :
    (s.emptyHold q).tables = s.tables ∧ (s.emptyHold q).intake = s.intake ∧ (s.emptyHold q).limits = s.limits ∧
    (s.emptyHold q).split = s.split ∧ (s.emptyHold q).regime = s.regime ∧ (s.emptyHold q).faults = s.faults ∧
    (s.emptyHold q).watch = s.watch ∧ (s.emptyHold q).ports = s.ports ∧ (s.emptyHold q).forward = s.forward ∧
    (s.emptyHold q).strapId = s.strapId ∧ (s.emptyHold q).strapRate = s.strapRate ∧
    (s.emptyHold q).resetApplied = s.resetApplied ∧ (s.emptyHold q).freeIx = s.freeIx ∧
    (s.emptyHold q).pending = s.pending := by
  simp [State.emptyHold]

@[simp] theorem State.renewIfHeld_keeps (s : State) (q : Requester) (name : TableName) (i : Nat) :
    (s.renewIfHeld q name i).tables = s.tables ∧ (s.renewIfHeld q name i).intake = s.intake ∧
    (s.renewIfHeld q name i).limits = s.limits ∧ (s.renewIfHeld q name i).split = s.split ∧
    (s.renewIfHeld q name i).regime = s.regime ∧ (s.renewIfHeld q name i).faults = s.faults ∧
    (s.renewIfHeld q name i).watch = s.watch ∧ (s.renewIfHeld q name i).ports = s.ports ∧
    (s.renewIfHeld q name i).forward = s.forward ∧ (s.renewIfHeld q name i).strapId = s.strapId ∧
    (s.renewIfHeld q name i).strapRate = s.strapRate ∧ (s.renewIfHeld q name i).resetApplied = s.resetApplied ∧
    (s.renewIfHeld q name i).freeIx = s.freeIx ∧ (s.renewIfHeld q name i).pending = s.pending := by
  simp only [State.renewIfHeld]; split <;> simp

@[simp] theorem State.capture_keeps (s : State) (q : Requester) :
    (s.capture q).tables = s.tables ∧ (s.capture q).intake = s.intake ∧ (s.capture q).limits = s.limits ∧
    (s.capture q).split = s.split ∧ (s.capture q).regime = s.regime ∧ (s.capture q).faults = s.faults ∧
    (s.capture q).watch = s.watch ∧ (s.capture q).ports = s.ports ∧ (s.capture q).forward = s.forward ∧
    (s.capture q).strapId = s.strapId ∧ (s.capture q).strapRate = s.strapRate ∧
    (s.capture q).resetApplied = s.resetApplied ∧ (s.capture q).freeIx = s.freeIx ∧
    (s.capture q).pending = s.pending := by
  simp [State.capture]

@[simp] theorem State.startCopy_keeps (s : State) :
    s.startCopy.intake = s.intake ∧ s.startCopy.limits = s.limits ∧ s.startCopy.split = s.split ∧
    s.startCopy.regime = s.regime ∧ s.startCopy.faults = s.faults ∧ s.startCopy.watch = s.watch ∧
    s.startCopy.ports = s.ports ∧ s.startCopy.forward = s.forward ∧ s.startCopy.mgmt = s.mgmt ∧
    s.startCopy.strapId = s.strapId ∧ s.startCopy.strapRate = s.strapRate ∧
    s.startCopy.resetApplied = s.resetApplied ∧ s.startCopy.freeIx = s.freeIx ∧
    s.startCopy.pending = s.pending := by
  simp [State.startCopy]

@[simp] theorem State.startCommit_keeps (s : State) :
    s.startCommit.intake = s.intake ∧ s.startCommit.limits = s.limits ∧ s.startCommit.split = s.split ∧
    s.startCommit.regime = s.regime ∧ s.startCommit.faults = s.faults ∧ s.startCommit.watch = s.watch ∧
    s.startCommit.ports = s.ports ∧ s.startCommit.forward = s.forward ∧ s.startCommit.mgmt = s.mgmt ∧
    s.startCommit.strapId = s.strapId ∧ s.startCommit.strapRate = s.strapRate ∧
    s.startCommit.resetApplied = s.resetApplied ∧ s.startCommit.freeIx = s.freeIx ∧
    s.startCommit.pending = s.pending := by
  simp [State.startCommit]

@[simp] theorem State.resetEntry_keeps (s : State) (name : TableName) (i : Nat) :
    (s.resetEntry name i).intake = s.intake ∧ (s.resetEntry name i).limits = s.limits ∧
    (s.resetEntry name i).split = s.split ∧ (s.resetEntry name i).regime = s.regime ∧
    (s.resetEntry name i).faults = s.faults ∧ (s.resetEntry name i).ports = s.ports ∧
    (s.resetEntry name i).forward = s.forward ∧ (s.resetEntry name i).mgmt = s.mgmt ∧
    (s.resetEntry name i).strapId = s.strapId ∧ (s.resetEntry name i).strapRate = s.strapRate ∧
    (s.resetEntry name i).resetApplied = s.resetApplied ∧ (s.resetEntry name i).freeIx = s.freeIx ∧
    (s.resetEntry name i).pending = s.pending ∧ (s.resetEntry name i).watch.queue = s.watch.queue ∧
    (s.resetEntry name i).watch.overflow = s.watch.overflow := by
  rcases name with tbl | ⟨_ | _ | _⟩ <;> simp only [State.resetEntry] <;> (try split) <;> simp [WatchUnit.written]
/-! ### The live tables -/

@[simp] theorem TableStore.walkStep_live (t : TableStore) :
    t.walkStep.forward = t.forward ∧ t.walkStep.portDefaults = t.portDefaults ∧
    t.walkStep.watch = t.watch ∧ t.walkStep.faultMap = t.faultMap := by
  unfold TableStore.walkStep
  split <;> (try split) <;> (try split) <;> exact ⟨rfl, rfl, rfl, rfl⟩

@[simp] theorem TableStore.copyStep_live (t : TableStore) :
    t.copyStep.forward = t.forward ∧ t.copyStep.portDefaults = t.portDefaults ∧
    t.copyStep.watch = t.watch ∧ t.copyStep.faultMap = t.faultMap := by
  unfold TableStore.copyStep
  split <;> (try split) <;> simp

@[simp] theorem State.adopt_live (s : State) (b : BankName) :
    (s.adopt b).tables.forward = s.tables.forward ∧ (s.adopt b).tables.portDefaults = s.tables.portDefaults ∧
    (s.adopt b).tables.watch = s.tables.watch ∧ (s.adopt b).tables.faultMap = s.tables.faultMap := by
  simp [State.adopt]

@[simp] theorem State.takeSwap_live (s : State) :
    s.takeSwap.tables.forward = s.tables.forward ∧ s.takeSwap.tables.portDefaults = s.tables.portDefaults ∧
    s.takeSwap.tables.watch = s.tables.watch ∧ s.takeSwap.tables.faultMap = s.tables.faultMap := by
  simp only [State.takeSwap]
  split <;> simp [TableStore.latchFailed]

@[simp] theorem State.swapAtStart_live (s : State) :
    s.swapAtStart.tables.forward = s.tables.forward ∧ s.swapAtStart.tables.portDefaults = s.tables.portDefaults ∧
    s.swapAtStart.tables.watch = s.tables.watch ∧ s.swapAtStart.tables.faultMap = s.tables.faultMap := by
  unfold State.swapAtStart
  split <;> simp

@[simp] theorem State.startCycle_live (s : State) (k : CycleKind) :
    (s.startCycle k).tables.forward = s.tables.forward ∧ (s.startCycle k).tables.portDefaults = s.tables.portDefaults ∧
    (s.startCycle k).tables.watch = s.tables.watch ∧ (s.startCycle k).tables.faultMap = s.tables.faultMap := by
  simp [State.startCycle]

@[simp] theorem State.completeCycle_live (s : State) (cyc : CycleInputs) :
    (s.completeCycle cyc).tables.forward = s.tables.forward ∧
    (s.completeCycle cyc).tables.portDefaults = s.tables.portDefaults ∧
    (s.completeCycle cyc).tables.watch = s.tables.watch ∧
    (s.completeCycle cyc).tables.faultMap = s.tables.faultMap := by
  simp [State.completeCycle]

@[simp] theorem State.commitPassed_live (s : State) :
    s.commitPassed.tables.forward = s.tables.forward ∧ s.commitPassed.tables.portDefaults = s.tables.portDefaults ∧
    s.commitPassed.tables.watch = s.tables.watch ∧ s.commitPassed.tables.faultMap = s.tables.faultMap := by
  simp only [State.commitPassed]
  split <;> simp

@[simp] theorem State.pinResetPassed_live (s : State) :
    s.pinResetPassed.tables.forward = s.tables.forward ∧ s.pinResetPassed.tables.portDefaults = s.tables.portDefaults ∧
    s.pinResetPassed.tables.watch = s.tables.watch ∧ s.pinResetPassed.tables.faultMap = s.tables.faultMap := by
  simp only [State.pinResetPassed]
  split <;> simp [TableStore.latchFailed]

@[simp] theorem State.startCopy_live (s : State) :
    s.startCopy.tables.forward = s.tables.forward ∧ s.startCopy.tables.portDefaults = s.tables.portDefaults ∧
    s.startCopy.tables.watch = s.tables.watch ∧ s.startCopy.tables.faultMap = s.tables.faultMap := by
  simp [State.startCopy]

@[simp] theorem State.startCommit_live (s : State) :
    s.startCommit.tables.forward = s.tables.forward ∧ s.startCommit.tables.portDefaults = s.tables.portDefaults ∧
    s.startCommit.tables.watch = s.tables.watch ∧ s.startCommit.tables.faultMap = s.tables.faultMap := by
  simp [State.startCommit]

/-! ### Resets -/

/-- What a reset leaves in every block, and the parts it keeps. -/
@[simp] theorem State.resetBlocks_blocks (s : State) (t : TableStore) (k : ResetKind) :
    (s.resetBlocks t k).tables = t ∧ (s.resetBlocks t k).intake = resetIntake ∧
    (s.resetBlocks t k).limits = resetLimits ∧ (s.resetBlocks t k).split = resetSplit ∧
    (s.resetBlocks t k).regime = resetRegime true ∧ (s.resetBlocks t k).faults = resetFaults ∧
    (s.resetBlocks t k).watch = resetWatch t.watch ∧ (s.resetBlocks t k).ports = resetPorts ∧
    (s.resetBlocks t k).forward = ⟨resetQueue, resetQueue⟩ ∧
    (s.resetBlocks t k).mgmt = ⟨resetRequester, resetRequester⟩ ∧ (s.resetBlocks t k).strapId = s.strapId ∧
    (s.resetBlocks t k).strapRate = s.strapRate ∧ (s.resetBlocks t k).resetApplied = some k ∧
    (s.resetBlocks t k).freeIx = s.freeIx ∧ (s.resetBlocks t k).pending = s.pending :=
  ⟨rfl, rfl, rfl, rfl, rfl, rfl, rfl, rfl, rfl, rfl, rfl, rfl, rfl, rfl, rfl⟩

end Sys2Proof.Machine
end

section
/-! PROOFS. What one step can do, said once: every command is a chain of moves, each one operation with the guard that
let it happen. A standing property that every move keeps is kept by every step. -/

namespace Sys2Proof.Machine

/-- An attempt that ends in error (R164, R176, R177): it fails, the count moves, and the port may enter BUS_OFF. -/
def State.errorAttempt (s : State) (p : Port) (a : Attempt) (k : TxErrorKind) : State :=
  let s := s.failAttempt p a
  let s := s.setPort p ((s.ports.port.get p).txFailed k)
  if (s.ports.port.get p).error = .busOff then s.enterBusOff p else s

@[simp] theorem State.errorAttempt_keeps (s : State) (p : Port) (a : Attempt) (k : TxErrorKind) :
    (s.errorAttempt p a k).tables = s.tables ∧ (s.errorAttempt p a k).intake = s.intake ∧
    (s.errorAttempt p a k).limits = s.limits ∧ (s.errorAttempt p a k).split = s.split ∧
    (s.errorAttempt p a k).regime = s.regime ∧ (s.errorAttempt p a k).watch = s.watch ∧
    (s.errorAttempt p a k).mgmt = s.mgmt ∧ (s.errorAttempt p a k).strapId = s.strapId ∧
    (s.errorAttempt p a k).strapRate = s.strapRate ∧ (s.errorAttempt p a k).resetApplied = s.resetApplied ∧
    (s.errorAttempt p a k).freeIx = s.freeIx ∧ (s.errorAttempt p a k).pending = s.pending ∧
    (s.errorAttempt p a k).ports.counters = s.ports.counters := by
  unfold State.errorAttempt
  simp only
  split <;> simp

/-- One operation on the state under its guard. A command is a chain of these (`exec_moves`). -/
inductive State.Move : State → State → Prop
  | powerOn (s : State) : Move s (s.resetBlocks powerOnTables .powerOn)
  | pin (s : State) : s.resetApplied = none → Move s (s.resetBlocks (pinResetTables s.tables) .pin)
  | resetEnd (s : State) (id : BitVec 2) (rate : Bool) : s.resetApplied ≠ none →
    Move s { s with
      strapId := id, strapRate := rate, resetApplied := none, regime := { s.regime with safeNLow := false } }
  | upset (s : State) (e : EntryRef) : Move s (s.setTables (s.tables.strike e))
  | walkTest (s : State) : Move s (s.setTables s.tables.walkStep)
  | commitPassed (s : State) (pos : Nat) (seen : List Int) : s.tables.walk = .running .commit pos seen → 559 ≤ pos →
    Move s s.commitPassed
  | pinResetPassed (s : State) (pos : Nat) (seen : List Int) : s.tables.walk = .running .pinReset pos seen →
    559 ≤ pos → Move s s.pinResetPassed
  | copyCarry (s : State) : s.resetApplied = none → Move s (s.setTables s.tables.copyStep)
  | copyDone (s : State) (p : Nat) : s.resetApplied = none → s.tables.copy = some p →
    Move s (s.setTables { s.tables.setBank s.tables.shadow
      (copyRest (s.tables.bank s.tables.selector) (s.tables.bank s.tables.shadow) p) with copy := none })
  | counted (s : State) (p : Port) : s.resetApplied = none → (s.ports.port.get p).error ≠ .busOff →
    Move s (s.countReceived p)
  | receiveError (s : State) (p : Port) : s.resetApplied = none → (s.ports.port.get p).error ≠ .busOff →
    Move s (s.setPort p (PortState.settled { s.ports.port.get p with
      rxCount := min ((s.ports.port.get p).rxCount + 1) 255 }))
  | offered (s : State) (p : Port) (f : Frame) : s.resetApplied = none → Move s (s.offerForward p f)
  | discarded (s : State) (r : Role) (f : Frame) (why : DiscardReason) : s.resetApplied = none →
    discardReason (s.intake.streams.get r) f = some why → Move s (s.discardFrame r why)
  | accepted (s : State) (r : Role) (f : Frame) : s.resetApplied = none →
    discardReason (s.intake.streams.get r) f = none → Move s ((s.storeFrame r f.data).handAcceptance r)
  | deadline (s : State) (r : Role) : s.resetApplied = none →
    (s.intake.streams.get r).deadline.isRunning = true → Move s (s.deadlineExpired r)
  | hold (s : State) (r : Role) : s.resetApplied = none →
    (s.intake.streams.get r).hold.isRunning = true → Move s (s.lapse r)
  | fillIn (s : State) : s.resetApplied = none → s.intake.fillIn.isRunning = true →
    Move s ((s.setIntake { s.intake with fillIn := .start s.tables.wp.fillPeriod }).issueStart .fillIn)
  | started (s : State) (k : CycleKind) : s.resetApplied = none → s.split.cycle = none → s.split.waiting = some k →
    Move s (s.startCycle k)
  | completed (s : State) (cyc : CycleInputs) : s.resetApplied = none → s.split.cycle = some cyc →
    Move s (s.completeCycle cyc)
  | crankTimer (s : State) : s.resetApplied = none → s.regime.crankT.isRunning = true → Move s s.crankExpiry
  | syncTimer (s : State) : s.resetApplied = none → s.regime.syncT.isRunning = true →
    Move s (s.setRegime (if s.regime.mode = .syncMatch
      then RegimeState.enterToward s.tables.wp .releaseOpening .electric { s.regime with syncT := .stopped }
      else { s.regime with syncT := .stopped }))
  | clutchTimer (s : State) : s.resetApplied = none → s.regime.clutchT.isRunning = true →
    Move s (s.setRegime { s.regime with clutchT := .stopped })
  | clutchTimeout (s : State) : s.resetApplied = none →
    Move s (s.setFaults (s.faults.set srcClutchFault s.faults.sources[srcClutchFault].raisedTimeout))
  | retryTimer (s : State) : s.resetApplied = none → Move s (s.setRegime { s.regime with retryT := .stopped })
  | minRun (s : State) (period : Nat) : s.resetApplied = none → s.regime.minRun = .running period →
    Move s (s.setRegime { s.regime with minRun := .expired })
  | transmitStart (s : State) (p : Port) (a : Attempt) : s.resetApplied = none → s.arbiterChoice p = some a →
    Move s (s.setPorts { s.ports with
      slots := s.ports.slots.move a.holder Slot.start
      port := s.ports.port.set p { s.ports.port.get p with attempt := some a } })
  | transmitted (s : State) (p : Port) (a : Attempt) : s.resetApplied = none →
    (s.ports.port.get p).attempt = some a →
    Move s ((s.setPorts
      { slots := s.ports.slots.move a.holder Slot.complete
        counters := s.ports.counters.bump a.holder
        port := s.ports.port.set p (PortState.settled
          { s.ports.port.get p with attempt := none, txCount := (s.ports.port.get p).txCount - 1 }) }).dequeue
            p a.holder)
  | attemptFailed (s : State) (p : Port) (a : Attempt) : s.resetApplied = none →
    (s.ports.port.get p).attempt = some a → Move s (s.failAttempt p a)
  | errored (s : State) (p : Port) (a : Attempt) (k : TxErrorKind) : s.resetApplied = none →
    (s.ports.port.get p).attempt = some a → Move s (s.errorAttempt p a k)
  | recessive (s : State) (p : Port) : s.resetApplied = none → Move s (s.recessiveRun p)
  | overrun (s : State) (q : Requester) : s.resetApplied = none →
    Move s (s.setRequester q { s.mgmt.get q with overrun := true })
  | held (s : State) (q : Requester) (l : LiveTable) (i : Nat) : s.resetApplied = none →
    s.holds q.other (.live l) i = false → Move s (s.holdEntry q ⟨l, i⟩)
  | wrote (s t : State) (name : TableName) (i field : Nat) (v : Int) : s.resetApplied = none →
    (TableName.isBank name && s.bankBusy) = false → s.writeField name i field v = some t → Move s t
  | entryReset (s : State) (name : TableName) (i : Nat) : s.resetApplied = none →
    (TableName.isBank name && s.bankBusy) = false → Move s (s.resetEntry name i)
  | renewed (s : State) (q : Requester) (name : TableName) (i : Nat) : s.resetApplied = none →
    Move s (s.renewIfHeld q name i)
  | released (s : State) (q : Requester) : s.resetApplied = none → Move s (s.emptyHold q)
  | copyBegun (s : State) : s.resetApplied = none → s.bankBusy = false → Move s s.startCopy
  | commitBegun (s : State) : s.resetApplied = none → s.bankBusy = false → Move s s.startCommit
  | cancelled (s : State) : s.resetApplied = none →
    Move s (s.setTables { s.tables with swapPending := false })
  | faultAcked (s : State) (i : Fin 12) : s.resetApplied = none → s.faults.sources[i].state ≠ .active →
    Move s (s.setFaults (s.faults.set i s.faults.sources[i].acked))
  | attemptsCleared (s : State) : s.resetApplied = none → Move s (s.setRegime { s.regime with attempts := 0 })
  | watchAcked (s : State) (i : Fin 16) : s.resetApplied = none →
    Move s (s.setWatch { s.watch with cells := s.watch.cells.set i { s.watch.cells[i] with fired := false } })
  | cellAcked (s : State) : s.resetApplied = none →
    Move s (s.setTables { s.tables with cellFault := emptyCellFault })
  | flagsAcked (s : State) : s.resetApplied = none →
    Move s ((s.setForward ⟨{ s.forward.u with overflow := false }, { s.forward.d with overflow := false }⟩).setWatch
      { s.watch with overflow := false })
  | captured (s : State) (q : Requester) : s.resetApplied = none → Move s (s.capture q)
  | replied (s : State) (q : Requester) (c : Content) : s.resetApplied = none →
    s.ports.slots.get (replySlot q) = .empty → Move s (s.place (replySlot q) c)

/-- A chain of moves. -/
abbrev State.Moves : State → State → Prop := Relation.ReflTransGen State.Move

/-! ### Writes -/

/-- What a WRITE of one field leaves, by the table it names. -/
theorem State.writeField_cases {s t : State} {name : TableName} {i field : Nat} {v : Int}
    (h : s.writeField name i field v = some t) :
    (∃ tbl f, name = .bank tbl ∧ s.tables.bankWritten s.tables.shadow tbl i field v = some f ∧
      t = s.setTables (s.tables.putBank s.tables.shadow tbl i f)) ∨
    (∃ e, name = .live .forward ∧ i = 47 ∧ s.tables.defaultsWritten field v = some e ∧
      t = s.setTables { s.tables with portDefaults := .passing e }) ∨
    (∃ e, name = .live .forward ∧ i ≠ 47 ∧ s.tables.fwdWritten i field v = some e ∧
      t = s.setTables { s.tables with forward := s.tables.forward.setIfInBounds i (.passing e) }) ∨
    (∃ e, name = .live .watch ∧ s.tables.watchWritten i field v = some e ∧
      t = (s.setTables { s.tables with watch := s.tables.watch.setIfInBounds i (.passing e) }).setWatch
        (s.watch.written i e.enable)) ∨
    (∃ e, name = .live .faultMap ∧ s.tables.faultWritten i field v = some e ∧
      t = s.setTables { s.tables with faultMap := s.tables.faultMap.setIfInBounds i (.passing e) }) := by
  unfold State.writeField at h
  rcases name with tbl | ⟨_ | _ | _⟩
  case bank =>
    obtain ⟨f, hf, rfl⟩ := Option.map_eq_some_iff.1 h
    exact .inl ⟨tbl, f, rfl, hf, rfl⟩
  case live.forward =>
    simp only at h
    by_cases hi : i = 47
    · rw [if_pos hi] at h
      obtain ⟨e, he, rfl⟩ := Option.map_eq_some_iff.1 h
      exact .inr (.inl ⟨e, rfl, hi, he, rfl⟩)
    · rw [if_neg hi] at h
      obtain ⟨e, he, rfl⟩ := Option.map_eq_some_iff.1 h
      exact .inr (.inr (.inl ⟨e, rfl, hi, he, rfl⟩))
  case live.watch =>
    obtain ⟨e, he, rfl⟩ := Option.map_eq_some_iff.1 h
    exact .inr (.inr (.inr (.inl ⟨e, rfl, he, rfl⟩)))
  case live.faultMap =>
    obtain ⟨e, he, rfl⟩ := Option.map_eq_some_iff.1 h
    exact .inr (.inr (.inr (.inr ⟨e, rfl, he, rfl⟩)))

/-- A field write changes the tables and the watch cells only. -/
theorem State.writeField_frame {s t : State} {name : TableName} {i field : Nat} {v : Int}
    (h : s.writeField name i field v = some t) : t = { s with tables := t.tables, watch := t.watch } := by
  rcases State.writeField_cases h with ⟨_, _, _, _, rfl⟩ | ⟨_, _, _, _, rfl⟩ | ⟨_, _, _, _, rfl⟩ | ⟨_, _, _, rfl⟩ |
    ⟨_, _, _, rfl⟩ <;> rfl

/-! ### Answers -/

/-- An answer by tests leaves the state as it was, or its tests gave OK and it leaves the applied state. -/
theorem answerWith_state (s : State) (st : Status) (v : Value24) (t : State) :
    (answerWith s st v t).state = s ∨ (st = .ok ∧ (answerWith s st v t).state = t) := by
  rcases answerWith_cases s st v t with ⟨h, e⟩ | ⟨-, e⟩ <;> rw [e]
  · exact .inr ⟨h, rfl⟩
  · exact .inl rfl

/-- What the applied state keeps, an answer by tests keeps. -/
theorem answerWith_apply {α : Type} (f : State → α) {s t : State} (st : Status) (v : Value24) (h : f t = f s) :
    f (answerWith s st v t).state = f s := by
  rcases answerWith_state s st v t with e | ⟨-, e⟩ <;> rw [e]
  exact h

/-- An acknowledgement of target FAULT names no source, finds its source ACTIVE, or takes it to CLEAR, with the attempt
count set to 0 for CRANK_FAIL (R110, R135, R137). -/
theorem State.answerAckFault_cases (s : State) (i : Nat) :
    (12 ≤ i ∧ s.answerAckFault i = ⟨.badIndex, 0, s⟩) ∨
    (∃ hi : i < 12, s.faults.sources[i].state = .active ∧ s.answerAckFault i = ⟨.conditionPresent, 1, s⟩) ∨
    (∃ hi : i < 12, s.faults.sources[i].state ≠ .active ∧ s.answerAckFault i = ⟨.ok, 0,
      if i = srcCrankFail.val
      then (s.setFaults (s.faults.set ⟨i, hi⟩ s.faults.sources[i].acked)).setRegime { s.regime with attempts := 0 }
      else s.setFaults (s.faults.set ⟨i, hi⟩ s.faults.sources[i].acked)⟩) := by
  unfold State.answerAckFault
  by_cases hi : i < 12
  · rw [dif_pos hi]
    by_cases hactive : s.faults.sources[i].state = .active
    · exact .inr (.inl ⟨hi, hactive, by simp only [hactive, if_true]; rfl⟩)
    · have hclear : s.faults.sources[i].acked.state = .clear := by
        unfold FaultSource.acked
        cases hst : s.faults.sources[i].state with
        | active => exact absurd hst hactive
        | clear => rfl
        | awaitAck => rfl
      exact .inr (.inr ⟨hi, hactive, by simp only [hactive, if_false, hclear]; rfl⟩)
  · exact .inl ⟨by omega, by rw [dif_neg hi]⟩

/-- The chain of an answer by tests, from the chain of its applied state. -/
theorem State.Moves.answerWith {s t : State} {st : Status} {v : Value24} (h : st = .ok → s.Moves t) :
    s.Moves (answerWith s st v t).state := by
  rcases answerWith_state s st v t with e | ⟨hok, e⟩ <;> rw [e]
  exact h hok

section
variable {s : State} (h : s.resetApplied = none)
include h

theorem State.answerReadHold_moves (q : Requester) (r : Request) : s.Moves (s.answerReadHold q r).state := by
  unfold State.answerReadHold
  split
  · next l _ =>
    refine .answerWith fun hok => .single (.held _ _ _ _ h ?_)
    have hall := (firstStatus_ok _ (by simp [State.readHoldTests])).1 hok
    exact hall (.held, s.holds q.other (.live l) r.indexNo) (by simp [State.readHoldTests])
  · exact .refl
  · exact .refl

theorem State.answerWrite_moves (q : Requester) (r : Request) : s.Moves (s.answerWrite q r).state := by
  unfold State.answerWrite
  split
  · exact .refl
  · next name _ =>
    refine .answerWith fun hok => ?_
    have hall := (firstStatus_ok _ (by simp [State.writeTests])).1 hok
    have hbusy := hall (.busy, TableName.isBank name && s.bankBusy) (by simp [State.writeTests])
    unfold State.writeApplied
    simp only
    split
    · exact .tail (.single (.entryReset _ _ _ h hbusy)) (.renewed _ _ _ _ (by simpa using h))
    · next hfield =>
      cases hw : s.writeField name r.indexNo r.fieldNo (writtenValue name r.indexNo r.fieldNo r.value) with
      | none => exact .single (.renewed _ _ _ _ h)
      | some t =>
        have ht := State.Move.wrote s t name _ _ _ h hbusy hw
        have hreset : t.resetApplied = none := by rw [State.writeField_frame hw]; exact h
        exact .tail (.single ht) (.renewed _ _ _ _ hreset)

theorem State.answerAckFault_moves (i : Nat) : s.Moves (s.answerAckFault i).state := by
  rcases s.answerAckFault_cases i with ⟨-, e⟩ | ⟨hi, -, e⟩ | ⟨hi, hactive, e⟩ <;> rw [e]
  have hacked := State.Move.faultAcked s ⟨i, hi⟩ h hactive
  by_cases hcrank : i = srcCrankFail.val
  · simp only [hcrank, if_true] at hacked ⊢
    exact .tail (.single hacked) (.attemptsCleared _ (by simpa using h))
  · simp only [hcrank, if_false]
    exact .single hacked

theorem State.answerAck_moves (r : Request) : s.Moves (s.answerAck r).state := by
  unfold State.answerAck
  split
  · exact State.answerAckFault_moves h _
  · unfold State.answerAckWatch
    split
    · next hi => exact .single (.watchAcked _ ⟨_, hi⟩ h)
    · exact .refl
  · exact .single (.cellAcked _ h)
  · exact .single (.flagsAcked _ h)
  · exact .refl

theorem State.answerStatus_moves (q : Requester) (r : Request) : s.Moves (s.answerStatus q r).state := by
  unfold State.answerStatus
  split_ifs
  · exact .refl
  · exact .refl
  · exact .single (.captured _ _ h)
  · split <;> exact .refl

theorem State.answer_moves (q : Requester) (r : Request) : s.Moves (s.answer q r).state := by
  unfold State.answer
  split
  case h_1 => exact .refl
  case h_2 =>
    unfold State.answerRead
    split
    · exact .refl
    · exact .answerWith fun _ => .refl
  case h_3 => exact State.answerReadHold_moves h q r
  case h_4 => exact State.answerWrite_moves h q r
  case h_5 => exact .single (.released _ _ h)
  case h_6 =>
    refine .answerWith fun hok => .single (.copyBegun _ h ?_)
    exact (firstStatus_ok _ (by simp)).1 hok (.busy, s.bankBusy) (by simp)
  case h_7 =>
    refine .answerWith fun hok => .single (.commitBegun _ h ?_)
    exact (firstStatus_ok _ (by simp)).1 hok (.busy, s.bankBusy) (by simp)
  case h_8 => exact .answerWith fun _ => .single (.cancelled _ h)
  case h_9 => exact State.answerAck_moves h r
  case h_10 => exact State.answerStatus_moves h q r

end

/-! ### What an answer leaves unchanged -/

/-- The blocks no answer touches. -/
def State.unanswered (s : State) :
    Intake × Limits × SplitState × PortsState × BitVec 2 × Bool × Option ResetKind × Nat × List Instr :=
  (s.intake, s.limits, s.split, s.ports, s.strapId, s.strapRate, s.resetApplied, s.freeIx, s.pending)

theorem State.writeApplied_unanswered (s : State) (q : Requester) (r : Request) (name : TableName) :
    (s.writeApplied q r name).unanswered = s.unanswered := by
  unfold State.writeApplied
  simp only [State.unanswered, State.renewIfHeld_keeps]
  split
  · simp
  · cases hw : s.writeField name r.indexNo r.fieldNo (writtenValue name r.indexNo r.fieldNo r.value) with
    | none => rfl
    | some t => rw [Option.getD_some, State.writeField_frame hw]

theorem State.answer_unanswered (s : State) (q : Requester) (r : Request) :
    (s.answer q r).state.unanswered = s.unanswered := by
  unfold State.answer
  split
  case h_1 => rfl
  case h_2 =>
    unfold State.answerRead
    split
    · rfl
    · exact answerWith_apply _ _ _ rfl
  case h_3 =>
    unfold State.answerReadHold
    split
    · exact answerWith_apply _ _ _ rfl
    · rfl
    · rfl
  case h_4 =>
    unfold State.answerWrite
    split
    · rfl
    · exact answerWith_apply _ _ _ (s.writeApplied_unanswered _ _ _)
  case h_5 => rfl
  case h_6 => exact answerWith_apply _ _ _ rfl
  case h_7 => exact answerWith_apply _ _ _ rfl
  case h_8 => exact answerWith_apply _ _ _ rfl
  case h_9 =>
    unfold State.answerAck
    split
    · rcases s.answerAckFault_cases r.indexNo with ⟨-, e⟩ | ⟨hi, -, e⟩ | ⟨hi, -, e⟩ <;> rw [e]
      split <;> rfl
    · unfold State.answerAckWatch
      split <;> rfl
    · rfl
    · rfl
    · rfl
  case h_10 =>
    unfold State.answerStatus
    split_ifs
    · rfl
    · rfl
    · rfl
    · split <;> rfl

/-- An answer leaves every block alone but the tables, the regime, the faults, the watches, the forward queues and the
Management Unit's own records. -/
@[simp] theorem State.answer_keeps (s : State) (q : Requester) (r : Request) :
    (s.answer q r).state.intake = s.intake ∧ (s.answer q r).state.limits = s.limits ∧
    (s.answer q r).state.split = s.split ∧ (s.answer q r).state.ports = s.ports ∧
    (s.answer q r).state.strapId = s.strapId ∧ (s.answer q r).state.strapRate = s.strapRate ∧
    (s.answer q r).state.resetApplied = s.resetApplied ∧ (s.answer q r).state.freeIx = s.freeIx ∧
    (s.answer q r).state.pending = s.pending := by
  have h := s.answer_unanswered q r
  simpa only [State.unanswered, Prod.mk.injEq] using h

/-! ### Frames -/

section
variable {s : State} (h : s.resetApplied = none)
include h

theorem State.takeRequest_moves (q : Requester) (r : Request) : s.Moves (s.takeRequest q r) := by
  by_cases hslot : s.ports.slots.get (replySlot q) = .empty
  · rw [State.takeRequest_taken _ _ _ hslot]
    exact .tail (State.answer_moves h q r) (.replied _ _ _ (by simpa using h) (by simpa using hslot))
  · rw [State.takeRequest_overrun _ _ _ hslot]
    exact .single (.overrun _ _ h)

theorem State.deliver_moves (r : Role) (f : Frame) : s.Moves (s.deliver r f) := by
  unfold State.deliver
  split
  · next why hwhy => exact .single (.discarded _ _ _ _ h hwhy)
  · next hnone => exact .single (.accepted _ _ _ h hnone)

theorem State.deliverRole_moves (role : Option Role) (f : Frame) : s.Moves (s.deliverRole role f) := by
  cases role with
  | none => exact .refl
  | some r => exact State.deliver_moves h r f

theorem State.act_moves (p : Port) (f : Frame) (a : FwdAction) (role : Option Role) :
    s.Moves (s.act p f a role) := by
  cases a with
  | pass => exact .single (.offered _ _ _ h)
  | consume => exact State.deliverRole_moves h role f
  | consumePass => exact .head (.offered _ _ _ h) (State.deliverRole_moves (by simpa using h) role f)
  | drop => exact .refl

theorem State.classifyFrame_moves (p : Port) (f : Frame) : s.Moves (s.classifyFrame p f) := by
  unfold State.classifyFrame
  split
  · cases p with
    | portU => exact State.takeRequest_moves h _ _
    | portD => exact .refl
  · exact .refl
  · exact State.act_moves h _ _ _ _

end

/-! ### The walk -/

/-- A step of the walk keeps its kind; where it still runs its position has risen or was at the end. -/
theorem TableStore.walkStep_running {t : TableStore} {k k' : WalkKind} {pos pos' : Nat} {seen seen' : List Int}
    (h : t.walk = .running k pos seen) (h' : t.walkStep.walk = .running k' pos' seen') :
    k' = k ∧ (pos' = pos + 1 ∨ 559 ≤ pos' ∧ pos' = pos) := by
  unfold TableStore.walkStep at h'
  simp only [h] at h'
  split at h'
  · split at h'
    · cases h'
    · cases h'; exact ⟨rfl, .inl rfl⟩
  · rw [h] at h'; cases h'; exact ⟨rfl, .inr ⟨by omega, rfl⟩⟩

/-- A walk carried on keeps its kind and, where it still runs, has reached every entry it was carried to. -/
theorem TableStore.walkOn_running {n : Nat} {t : TableStore} {k k' : WalkKind} {pos pos' : Nat} {seen seen' : List Int}
    (h : t.walk = .running k pos seen) (h' : (TableStore.walkOn n t).walk = .running k' pos' seen') :
    k' = k ∧ min 559 (pos + n) ≤ pos' := by
  induction n generalizing t pos seen with
  | zero =>
    rw [TableStore.walkOn, h] at h'; cases h'
    exact ⟨rfl, by omega⟩
  | succ n ih =>
    simp only [TableStore.walkOn, h] at h'
    cases hw : t.walkStep.walk with
    | running k1 pos1 seen1 =>
      obtain ⟨rfl, hpos⟩ := TableStore.walkStep_running h hw
      obtain ⟨rfl, hle⟩ := ih hw h'
      exact ⟨rfl, by omega⟩
    | _ => cases n <;> simp [TableStore.walkOn, hw] at h'

theorem State.walkOn_moves (n : Nat) (s : State) : s.Moves (s.setTables (TableStore.walkOn n s.tables)) := by
  induction n generalizing s with
  | zero => exact .refl
  | succ n ih =>
    unfold TableStore.walkOn
    split
    · exact .head (.walkTest s) (ih (s.setTables s.tables.walkStep))
    · exact .refl
    · exact .refl
    · exact .refl

/-! ### Commands -/

theorem State.walkCompletion_moves {s t : State} (h : execWalkCompletion s = .next t) : s.Moves t := by
  unfold execWalkCompletion at h
  cases hw : s.tables.walk with
  | running k pos seen =>
    simp only [hw, Host.Outcome.next.injEq] at h
    have hon := State.walkOn_moves 559 s
    split at h
    · next hw' =>
      obtain ⟨rfl, hpos⟩ := TableStore.walkOn_running hw hw'
      exact h ▸ .tail hon (.commitPassed _ _ _ hw' (by omega))
    · next hw' =>
      obtain ⟨rfl, hpos⟩ := TableStore.walkOn_running hw hw'
      exact h ▸ .tail hon (.pinResetPassed _ _ _ hw' (by omega))
    all_goals exact h ▸ hon
  | _ => simp only [hw, Host.Outcome.next.injEq] at h; exact h ▸ .refl

/-- A command taken only while no reset is applied. -/
theorem State.unlessReset_moves {s u t : State} (hu : s.resetApplied = none → s.Moves u)
    (h : Host.Outcome.next (s.unlessReset u) = (.next t : Host.Outcome State Fault Refusal)) : s.Moves t := by
  cases h
  rcases s.unlessReset_cases u with ⟨hnone, e⟩ | ⟨-, e⟩ <;> rw [e]
  exact hu hnone

/-- A request given as a command. -/
theorem State.request_moves {s t : State} {q : Requester} {r : Request}
    (h : Host.Outcome.next (s.request q r) = (.next t : Host.Outcome State Fault Refusal)) : s.Moves t := by
  refine State.unlessReset_moves (fun hnone => ?_) h
  split
  · exact .refl
  · exact State.takeRequest_moves hnone q r

/-- The inversion of `exec`: every command is a chain of moves. -/
theorem exec_moves {c : Instr} {s t : State} (h : exec c s = .next t) : s.Moves t := by
  cases c with
  | powerOnReset => cases h; exact .single (.powerOn s)
  | pinReset =>
    cases h
    split
    · next hr => exact .single (.pin s hr)
    · exact .refl
  | resetEnd id rate =>
    cases h
    split
    · exact .refl
    · next hr => exact .single (.resetEnd s id rate (by simp [hr]))
  | upset e => cases h; exact .single (.upset s e)
  | walkEntryTest => cases h; exact .single (.walkTest s)
  | walkCompletion => exact State.walkCompletion_moves h
  | frameReceived p f =>
    refine State.unlessReset_moves (fun hr => ?_) h
    split
    · next hc =>
      have honline : (s.ports.port.get p).error ≠ .busOff := by simpa [State.receives] using hc.1
      exact .head (.counted s p hr honline) (State.classifyFrame_moves (by simpa using hr) p f)
    · exact .refl
  | nonDataFrameDiscard p k =>
    refine State.unlessReset_moves (fun hr => ?_) h
    split
    · next hc => exact .single (.counted s p hr (by simpa [State.receives] using hc))
    · exact .refl
  | receiveError p =>
    refine State.unlessReset_moves (fun hr => ?_) h
    simp only
    split
    · exact .refl
    · next hc => exact .single (.receiveError s p hr hc)
  | deadlineExpiry r =>
    refine State.unlessReset_moves (fun hr => ?_) h
    split
    · next hc => exact .single (.deadline s r hr hc)
    · exact .refl
  | holdExpiry r =>
    refine State.unlessReset_moves (fun hr => ?_) h
    split
    · next hc => exact .single (.hold s r hr hc)
    · exact .refl
  | fillInExpiry =>
    refine State.unlessReset_moves (fun hr => ?_) h
    split
    · next hc => exact .single (.fillIn s hr hc)
    · exact .refl
  | splitCycleStart =>
    refine State.unlessReset_moves (fun hr => ?_) h
    split
    · next k hc hw => exact .single (.started s k hr hc hw)
    · exact .refl
    · exact .refl
  | splitCycleCompletion =>
    refine State.unlessReset_moves (fun hr => ?_) h
    split
    · next cyc hc => exact .single (.completed s cyc hr hc)
    · exact .refl
  | crankTimerExpiry =>
    refine State.unlessReset_moves (fun hr => ?_) h
    split
    · next hc => exact .single (.crankTimer s hr hc)
    · exact .refl
  | syncTimerExpiry =>
    refine State.unlessReset_moves (fun hr => ?_) h
    split
    · next hc => exact .single (.syncTimer s hr hc)
    · exact .refl
  | clutchTimerExpiry =>
    refine State.unlessReset_moves (fun hr => ?_) h
    split
    · next hc =>
      have hstop := State.Move.clutchTimer s hr hc
      simp only [State.setRegime_regime]
      split
      · exact .tail (.single hstop) (.clutchTimeout _ hr)
      · exact .tail (.single hstop) (.clutchTimeout _ hr)
      · exact .single hstop
    · exact .refl
  | retryTimerExpiry =>
    refine State.unlessReset_moves (fun hr => ?_) h
    split
    · exact .single (.retryTimer s hr)
    · exact .refl
  | minRunExpiry =>
    refine State.unlessReset_moves (fun hr => ?_) h
    split
    · next period hc => exact .single (.minRun s period hr hc)
    · exact .refl
    · exact .refl
  | copyEntryCarry => exact State.unlessReset_moves (fun hr => .single (.copyCarry s hr)) h
  | copyCompletion =>
    refine State.unlessReset_moves (fun hr => ?_) h
    split
    · exact .refl
    · next p hc => exact .single (.copyDone s p hr hc)
  | transmitStart p =>
    refine State.unlessReset_moves (fun hr => ?_) h
    split
    · exact .refl
    · next a hc => exact .single (.transmitStart s p a hr hc)
  | transmissionCompletion p =>
    refine State.unlessReset_moves (fun hr => ?_) h
    split
    · exact .refl
    · next a hc => exact .single (.transmitted s p a hr hc)
  | arbitrationLost p =>
    refine State.unlessReset_moves (fun hr => ?_) h
    split
    · exact .refl
    · next a hc => exact .single (.attemptFailed s p a hr hc)
  | transmitError p k =>
    refine State.unlessReset_moves (fun hr => ?_) h
    split
    · exact .refl
    · next a hc => exact .single (.errored s p a k hr hc)
  | busOffRecovery p =>
    refine State.unlessReset_moves (fun hr => ?_) h
    split
    · exact .single (.recessive s p hr)
    · exact .refl
  | elevenRecessiveBitsSeen p => exact State.unlessReset_moves (fun hr => .single (.recessive s p hr)) h
  | editWindowExpiry q =>
    refine State.unlessReset_moves (fun hr => ?_) h
    split
    · exact .single (.released s q hr)
    · exact .refl
  | malformedRequest | read | readHold | write | entryReset | release | copy | commit | cancel | ackFault | ackWatch
  | ackCell | ackFlags | statusCapture | statusRead => exact State.request_moves h

/-- What every move keeps, every step keeps; the queue itself plays no part in it. -/
theorem step_keeps {I : State → Prop} (queue : ∀ (s : State) (l : List Instr), I s → I { s with pending := l })
    (move : ∀ s t : State, s.Move t → I s → I t) {s t : State} (hs : I s) (h : step s = .next t) : I t := by
  have chain : ∀ {u : State}, u.Moves t → I u → I t := fun hm hu => by
    induction hm using Relation.ReflTransGen.head_induction_on with
    | refl => exact hu
    | head hmove _ ih => exact ih (move _ _ hmove hu)
  cases hp : s.pending with
  | nil =>
    rw [step_nil s hp] at h
    cases h; exact hs
  | cons c rest =>
    rw [step_cons c rest s hp] at h
    exact chain (exec_moves h) (queue s rest hs)

end Sys2Proof.Machine
end

section
/-! PROOFS. Signal Intake: what an acceptance, an expiry and a reset leave in the streams, and the two standing
properties of the stored streams (R26, R31 to R43). -/

namespace Sys2Proof.Machine

/-! ### Timers, stored values and stream entries -/

@[simp] theorem Timer.isRunning_start (period : Int) : (Timer.start period).isRunning = true := rfl

@[simp] theorem Timer.isRunning_stopped : Timer.stopped.isRunning = false := rfl

@[simp] theorem Timer.isRunning_running (period : Nat) : (Timer.running period).isRunning = true := rfl

/-- Storing a frame touches the stored values of its own role only. -/
@[simp] theorem Intake.store_keeps (x : Intake) (r : Role) (d : List Byte) :
    (x.store r d).streams = x.streams ∧ (x.store r d).fillIn = x.fillIn := by
  cases r <;> exact ⟨rfl, rfl⟩

/-- A deadline expiry leads to HELD, or to LAPSED where the hold parameter is 0; for DEMAND the fill-in timer starts. -/
theorem State.deadlineExpired_intake (s : State) (r : Role) : (s.deadlineExpired r).intake = { s.intake with
    fillIn := if r = .demand then .start s.tables.wp.fillPeriod else s.intake.fillIn
    streams := s.intake.streams.set r (if s.tables.wp.holdOf r ≤ 0
      then { s.intake.streams.get r with state := .lapsed, deadline := .stopped, hold := .stopped, lapse := true }
      else { s.intake.streams.get r with
        state := .held, deadline := .stopped, hold := .start (s.tables.wp.holdOf r) }) } := by
  unfold State.deadlineExpired
  simp only
  split_ifs <;> rfl

/-! ### What a move can do to Signal Intake -/

/-- A change that a move can make to Signal Intake. -/
inductive Intake.Change (wp : WorkingParams) (x : Intake) : Intake → Prop
  | same : Change wp x x
  | reset : Change wp x resetIntake
  | discarded (r : Role) (why : DiscardReason) :
    Change wp x { x with streams := x.streams.set r { x.streams.get r with discard := why } }
  | accepted (r : Role) (d : List Byte) : Change wp x { x.store r d with
      streams := x.streams.set r (acceptedMeta wp r (x.streams.get r) d)
      fillIn := if r = .demand then .stopped else x.fillIn }
  | held (r : Role) : (x.streams.get r).deadline.isRunning = true → Change wp x { x with
      fillIn := if r = .demand then .start wp.fillPeriod else x.fillIn
      streams := x.streams.set r { x.streams.get r with
        state := .held, deadline := .stopped, hold := .start (wp.holdOf r) } }
  | lapsedAtOnce (r : Role) : (x.streams.get r).deadline.isRunning = true → Change wp x { x with
      fillIn := if r = .demand then .start wp.fillPeriod else x.fillIn
      streams := x.streams.set r { x.streams.get r with
        state := .lapsed, deadline := .stopped, hold := .stopped, lapse := true } }
  | lapsed (r : Role) : (x.streams.get r).hold.isRunning = true → Change wp x { x with
      streams := x.streams.set r { x.streams.get r with
        state := .lapsed, deadline := .stopped, hold := .stopped, lapse := true } }
  | fillIn : x.fillIn.isRunning = true → Change wp x { x with fillIn := .start wp.fillPeriod }

theorem State.Move.intake_change {s t : State} (h : s.Move t) : s.intake.Change s.tables.wp t.intake := by
  cases h with
  | powerOn | pin => exact .reset
  | discarded r f why => exact .discarded r why
  | accepted r f =>
    rw [(State.handAcceptance_keeps _ r).2.1, State.storeFrame_intake]
    exact .accepted r f.data
  | deadline r _ hrun =>
    rw [State.deadlineExpired_intake]
    split
    · exact .lapsedAtOnce r hrun
    · exact .held r hrun
  | hold r _ hrun => exact .lapsed r hrun
  | fillIn _ hrun => exact .fillIn hrun
  | wrote _ name i field v _ _ hw => rw [State.writeField_frame hw]; exact .same
  | _ => simpa using Intake.Change.same

/-! ### Stored values stay in range -/

/-- Every role's decoding clamps into the ranges of R31 to R36. -/
theorem StoredInRange.store {x : Intake} (h : StoredInRange x) (r : Role) (d : List Byte) :
    StoredInRange (x.store r d) := by
  have bounds (lo hi v : Int) (hle : lo ≤ hi) : lo ≤ clamp v lo hi ∧ clamp v lo hi ≤ hi := clamp_bounds v hle
  cases r with
  | demand => exact { h with torque := bounds (-600) 600 (fieldS (dataWord d) 0 12) (by decide) }
  | battery =>
    exact { h with
      soc := bounds 0 1000 (fieldU (dataWord d) 0 11) (by decide)
      pDis := bounds 0 2000 (fieldU (dataWord d) 11 12) (by decide)
      pChg := bounds 0 2000 (fieldU (dataWord d) 23 12) (by decide)
      battTemp := bounds (-40) 100 (fieldTemp (dataWord d) 35) (by decide) }
  | inverter =>
    exact { h with
      shaftSpeed := bounds 0 7000 (fieldU (dataWord d) 0 13) (by decide)
      motoring := bounds 0 400 (fieldU (dataWord d) 13 10) (by decide)
      generating := bounds 0 400 (fieldU (dataWord d) 23 10) (by decide)
      motorTemp := bounds (-40) 200 (fieldTemp (dataWord d) 33) (by decide) }
  | engine =>
    have magnitude := bounds 0 400 (fieldU (dataWord d) 23 10) (by decide)
    exact { h with
      engineSpeed := bounds 0 7000 (fieldU (dataWord d) 0 13) (by decide)
      available := bounds 0 400 (fieldU (dataWord d) 13 10) (by decide)
      drag := ⟨neg_le_neg magnitude.2, neg_nonpos.2 magnitude.1⟩
      coolantTemp := bounds (-40) 150 (fieldTemp (dataWord d) 33) (by decide) }
  | clutch => exact { h with }
  | brake => exact { h with regen := bounds 0 400 (fieldU (dataWord d) 0 10) (by decide) }

theorem storedInRange_reset : StoredInRange resetIntake := by constructor <;> decide

theorem Intake.Change.storedInRange {wp : WorkingParams} {x y : Intake} (h : x.Change wp y) (hx : StoredInRange x) :
    StoredInRange y := by
  cases h with
  | reset => exact storedInRange_reset
  | accepted r d => exact { hx.store r d with }
  | same | discarded | held | lapsedAtOnce | lapsed | fillIn => exact { hx with }

/-! ### Streams stay consistent -/

/-- StreamsInv as a property of Signal Intake alone. -/
structure Intake.InStep (x : Intake) : Prop where
  streams : ∀ r : Role, (x.streams.get r).Consistent
  fillIn : x.fillIn.isRunning = true ↔ (x.streams.demand.state = .held ∨ x.streams.demand.state = .lapsed)

theorem streamsInv_iff (s : State) : StreamsInv s ↔ s.intake.InStep :=
  ⟨fun h => ⟨h.streams, h.fillIn⟩, fun h => ⟨h.streams, h.fillIn⟩⟩

/-- A consistent stream that has left NEVER is consistent in LAPSED. -/
theorem StreamMeta.Consistent.lapsed {m : StreamMeta} (h : m.Consistent) (hseen : m.state ≠ .never) :
    StreamMeta.Consistent { m with state := .lapsed, deadline := .stopped, hold := .stopped, lapse := true } := by
  have hcounter : m.counter ≠ none := fun hc => hseen (h.counter.1 hc)
  constructor <;> simp [hcounter]

/-- A stream entry replaced by a consistent one, with the fill-in timer set right for DEMAND. -/
theorem Intake.InStep.set {x : Intake} (h : x.InStep) (r : Role) {m : StreamMeta} (hm : m.Consistent) {y : Intake}
    (hstreams : y.streams = x.streams.set r m) (hother : r ≠ .demand → y.fillIn = x.fillIn)
    (hdemand : r = .demand → (y.fillIn.isRunning = true ↔ m.state = .held ∨ m.state = .lapsed)) : y.InStep where
  streams r' := by
    rw [hstreams, ByRole.get_set]
    split
    · exact hm
    · exact h.streams r'
  fillIn := by
    rw [hstreams]
    by_cases hr : r = .demand
    · subst hr; exact hdemand rfl
    · rw [hother hr]
      have hkeep : (x.streams.set r m).demand = x.streams.demand := x.streams.get_set_ne m (Ne.symm hr)
      rw [hkeep]; exact h.fillIn

theorem Intake.Change.inStep {wp : WorkingParams} {x y : Intake} (h : x.Change wp y) (hx : x.InStep) : y.InStep := by
  cases h with
  | same => exact hx
  | reset => exact ⟨fun r => by cases r <;> constructor <;> decide, by decide⟩
  | discarded r why =>
    refine hx.set r (m := { x.streams.get r with discard := why }) { hx.streams r with } rfl (fun _ => rfl) ?_
    rintro rfl; exact hx.fillIn
  | accepted r d =>
    refine hx.set r (m := acceptedMeta wp r (x.streams.get r) d) ?_ rfl (fun hr => if_neg hr) ?_
    · constructor <;> simp [acceptedMeta]
    · rintro rfl; simp [acceptedMeta]
  | held r hrun =>
    have hfresh := (hx.streams r).deadline.1 hrun
    refine hx.set r ?_ rfl (fun hr => if_neg hr) ?_
    · have hcounter : (x.streams.get r).counter ≠ none := fun hc => by
        simpa [hfresh] using (hx.streams r).counter.1 hc
      have hlapse : (x.streams.get r).lapse ≠ true := fun hl => by simpa [hfresh] using (hx.streams r).lapse.1 hl
      constructor <;> simp [hcounter, hlapse]
    · rintro rfl; simp
  | lapsedAtOnce r hrun =>
    have hfresh := (hx.streams r).deadline.1 hrun
    refine hx.set r ((hx.streams r).lapsed (by simp [hfresh])) rfl (fun hr => if_neg hr) ?_
    rintro rfl; simp
  | lapsed r hrun =>
    have hheld := (hx.streams r).hold.1 hrun
    refine hx.set r ((hx.streams r).lapsed (by simp [hheld])) rfl (fun _ => rfl) ?_
    rintro rfl
    exact iff_of_true (hx.fillIn.2 (.inl hheld)) (.inr rfl)
  | fillIn hrun => exact ⟨hx.streams, by simpa using hx.fillIn.1 hrun⟩

/-! ### The standing properties -/

theorem State.Move.storedInRange {s t : State} (h : s.Move t) (hs : StoredInRange s.intake) :
    StoredInRange t.intake := h.intake_change.storedInRange hs

theorem State.Move.streamsInv {s t : State} (h : s.Move t) (hs : StreamsInv s) : StreamsInv t :=
  (streamsInv_iff t).2 (h.intake_change.inStep ((streamsInv_iff s).1 hs))

end Sys2Proof.Machine
end

section
/-! PROOFS. The Limit Vector Unit: its records and their combination stay in range (R48, R49, R52 to R61), and the
values of the passing watch entries (R143 to R145). -/

namespace Sys2Proof.Machine

/-! ### Least and greatest values -/

/-- The least of a list stands in it and no member lies below it. -/
theorem leastOf_eq_some_iff (l : List Int) (y : Int) : leastOf l = some y ↔ y ∈ l ∧ ∀ z ∈ l, y ≤ z := by
  induction l generalizing y with
  | nil => simp [leastOf]
  | cons x xs ih =>
    unfold leastOf
    cases hl : leastOf xs with
    | none =>
      have hempty : xs = [] := by
        cases xs with
        | nil => rfl
        | cons a as =>
          unfold leastOf at hl
          split at hl <;> cases hl
      subst hempty
      simp only [List.mem_singleton, Option.some.injEq, forall_eq]
      exact ⟨fun hxy => ⟨hxy.symm, hxy.ge⟩, fun hyx => hyx.1.symm⟩
    | some m =>
      obtain ⟨hmem, hleast⟩ := (ih m).1 hl
      simp only [Option.some.injEq, List.mem_cons, forall_eq_or_imp]
      constructor
      · rintro rfl
        refine ⟨?_, min_le_left _ _, fun z hz => (min_le_right _ _).trans (hleast z hz)⟩
        rcases min_choice x m with h | h <;> rw [h]
        · exact .inl rfl
        · exact .inr hmem
      · rintro ⟨rfl | hy, hx, hall⟩
        · exact min_eq_left (hall m hmem)
        · exact le_antisymm ((min_le_right _ _).trans (hleast y hy)) (le_min hx (hall m hmem))

theorem leastOf_eq_none_iff (l : List Int) : leastOf l = none ↔ l = [] := by
  cases l with
  | nil => simp [leastOf]
  | cons x xs => unfold leastOf; split <;> simp

theorem leastPresent_eq_or_mem (l : List (Option Int)) : leastPresent l = 400 ∨ some (leastPresent l) ∈ l := by
  induction l with
  | nil => exact .inl rfl
  | cons o os ih =>
    cases o with
    | none => exact ih.imp_right (List.mem_cons_of_mem _)
    | some x =>
      simp only [leastPresent]
      rcases min_choice x (leastPresent os) with hm | hm <;> rw [hm]
      · exact .inr List.mem_cons_self
      · exact ih.imp_right (List.mem_cons_of_mem _)

theorem leastPresent_le_of_mem {l : List (Option Int)} {x : Int} (h : some x ∈ l) : leastPresent l ≤ x := by
  induction l with
  | nil => cases h
  | cons o os ih =>
    rcases List.mem_cons.1 h with rfl | htail
    · exact min_le_left _ _
    · cases o with
      | none => exact ih htail
      | some y => exact (min_le_right _ _).trans (ih htail)

/-- The search for the least present value of a HI lane: it stays in the lane, and finds the least value there is. -/
theorem leastPresent_spec (l : List (Option Int)) (h : ∀ o ∈ l, ∀ x ∈ o, 0 ≤ x ∧ x ≤ 400) :
    0 ≤ leastPresent l ∧ leastPresent l ≤ 400 ∧ (∀ o ∈ l, ∀ x ∈ o, leastPresent l ≤ x) ∧
      ((∃ o ∈ l, o.isSome = true) → some (leastPresent l) ∈ l) := by
  have hle : ∀ o ∈ l, ∀ x ∈ o, leastPresent l ≤ x := by
    rintro o ho x rfl
    exact leastPresent_le_of_mem ho
  have hrange : 0 ≤ leastPresent l ∧ leastPresent l ≤ 400 := by
    rcases leastPresent_eq_or_mem l with h400 | hmem
    · rw [h400]; decide
    · exact h _ hmem _ rfl
  refine ⟨hrange.1, hrange.2, hle, ?_⟩
  rintro ⟨o, ho, hsome⟩
  obtain ⟨x, rfl⟩ := Option.isSome_iff_exists.1 hsome
  rcases leastPresent_eq_or_mem l with h400 | hmem
  · have hx : leastPresent l = x := le_antisymm (hle _ ho x rfl) (h400 ▸ (h _ ho x rfl).2)
    rw [hx]; exact ho
  · exact hmem

/-- The search for the greatest present value of a LO lane. -/
theorem greatestPresent_eq (l : List (Option Int)) :
    greatestPresent l = -leastPresent (l.map (Option.map Neg.neg)) := by
  induction l with
  | nil => rfl
  | cons o os ih => cases o <;> simp [greatestPresent, leastPresent, ih, ← max_neg_neg]

theorem greatestPresent_spec (l : List (Option Int)) (h : ∀ o ∈ l, ∀ x ∈ o, -400 ≤ x ∧ x ≤ 0) :
    -400 ≤ greatestPresent l ∧ greatestPresent l ≤ 0 ∧ (∀ o ∈ l, ∀ x ∈ o, x ≤ greatestPresent l) ∧
      ((∃ o ∈ l, o.isSome = true) → some (greatestPresent l) ∈ l) := by
  obtain ⟨hlo, hhi, hle, hmem⟩ := leastPresent_spec (l.map (Option.map Neg.neg)) (by
    rintro o ho x hx
    obtain ⟨o', ho', rfl⟩ := List.mem_map.1 ho
    obtain ⟨y, hy, rfl⟩ := Option.mem_map.1 hx
    have := h o' ho' y hy
    omega)
  rw [greatestPresent_eq]
  refine ⟨by omega, by omega, fun o ho x hx => ?_, fun ⟨o, ho, hs⟩ => ?_⟩
  · have := hle _ (List.mem_map_of_mem ho) (-x) (Option.mem_map_of_mem _ hx)
    omega
  · obtain ⟨o', ho', heq⟩ := List.mem_map.1 (hmem ⟨_, List.mem_map_of_mem ho, by simpa using hs⟩)
    obtain ⟨y, hy, hy'⟩ := Option.map_eq_some_iff.1 heq
    rw [← hy', neg_neg, ← hy]; exact ho'

/-! ### The combination (R59) -/

theorem Limits.forall_records {x : Limits} {P : LimitRecord → Prop} : (∀ r ∈ x.records, P r) ↔
    P x.static ∧ P x.engine ∧ P x.inverter ∧ P x.battery ∧ P x.brake ∧ P x.watch ∧ P x.fault := by
  simp [Limits.records]

section
variable {x : Limits} (h : ∀ r ∈ x.records, r.InRange)
include h

/-- A HI or LO lane of the records holds values of its range only. -/
theorem Limits.lane_inRange : (∀ o ∈ x.records.map LimitRecord.engHi, ∀ y ∈ o, 0 ≤ y ∧ y ≤ 400) ∧
    (∀ o ∈ x.records.map LimitRecord.engLo, ∀ y ∈ o, -400 ≤ y ∧ y ≤ 0) ∧
    (∀ o ∈ x.records.map LimitRecord.motHi, ∀ y ∈ o, 0 ≤ y ∧ y ≤ 400) ∧
    (∀ o ∈ x.records.map LimitRecord.motLo, ∀ y ∈ o, -400 ≤ y ∧ y ≤ 0) := by
  simp only [List.forall_mem_map]
  exact ⟨fun r hr => (h r hr).engHi, fun r hr => (h r hr).engLo, fun r hr => (h r hr).motHi, fun r hr => (h r hr).motLo⟩

theorem Limits.combine_inRange : x.combine.InRange := by
  obtain ⟨h1, h2, h3, h4⟩ := Limits.lane_inRange h
  obtain ⟨a1, b1, -⟩ := leastPresent_spec _ h1
  obtain ⟨a2, b2, -⟩ := greatestPresent_spec _ h2
  obtain ⟨a3, b3, -⟩ := leastPresent_spec _ h3
  obtain ⟨a4, b4, -⟩ := greatestPresent_spec _ h4
  exact ⟨⟨a1, b1⟩, ⟨a2, b2⟩, ⟨a3, b3⟩, ⟨a4, b4⟩⟩

end

/-! ### Each record is in range -/

theorem LimitRecord.inRange_of_sat {a b c d : Option Int} (ha : ∀ x ∈ a, ∃ y, x = satHi y)
    (hb : ∀ x ∈ b, ∃ y, x = satLo y) (hc : ∀ x ∈ c, ∃ y, x = satHi y) (hd : ∀ x ∈ d, ∃ y, x = satLo y) :
    LimitRecord.InRange ⟨a, b, c, d⟩ where
  engHi x hx := by obtain ⟨y, rfl⟩ := ha x hx; exact satHi_bounds y
  engLo x hx := by obtain ⟨y, rfl⟩ := hb x hx; exact satLo_bounds y
  motHi x hx := by obtain ⟨y, rfl⟩ := hc x hx; exact satHi_bounds y
  motLo x hx := by obtain ⟨y, rfl⟩ := hd x hx; exact satLo_bounds y

theorem staticRecord_inRange (wp : WorkingParams) : (staticRecord wp).InRange := by
  apply LimitRecord.inRange_of_sat <;> rintro x ⟨⟩ <;> exact ⟨_, rfl⟩

theorem engineRecord_inRange (v : EngineVals) : (engineRecord v).InRange := by
  apply LimitRecord.inRange_of_sat <;> rintro x ⟨⟩ <;> exact ⟨_, rfl⟩

theorem inverterRecord_inRange (v : InverterVals) : (inverterRecord v).InRange := by
  apply LimitRecord.inRange_of_sat <;> rintro x ⟨⟩ <;> exact ⟨_, rfl⟩

theorem brakeRecord_inRange (v : BrakeVals) : (brakeRecord v).InRange :=
  ⟨nofun, nofun, nofun, fun x hx => by cases hx; exact satLo_bounds _⟩

theorem batteryRecord_inRange (wp : WorkingParams) (v : BatteryVals) (speed : Int) :
    (batteryRecord wp v speed).InRange := by
  apply LimitRecord.inRange_of_sat <;> rintro x ⟨⟩ <;> exact ⟨_, rfl⟩

theorem fallback_inRange : engineFallback.InRange ∧ inverterFallback.InRange ∧ brakeFallback.InRange := by
  refine ⟨?_, ?_, ?_⟩ <;> (constructor <;> simp [engineFallback, inverterFallback, brakeFallback])

theorem derateOf_sat (w : WatchUnit) (t : TableStore) (a : WatchAction) : ∀ x ∈ derateOf w t a, ∃ y, x = satHi y := by
  intro x hx
  obtain ⟨hmem, -⟩ := (leastOf_eq_some_iff _ _).1 hx
  obtain ⟨e, -, rfl⟩ := List.mem_map.1 hmem
  exact ⟨_, rfl⟩

theorem watchRecord_inRange (w : WatchUnit) (t : TableStore) : (watchRecord w t).InRange :=
  LimitRecord.inRange_of_sat (derateOf_sat w t _) (by simp) (derateOf_sat w t _) (by simp)

theorem forcedLane_eq_zero {es : List FaultEntry} {member : FaultEntry → Bool} {x : Int}
    (h : x ∈ forcedLane es member) : x = 0 := by
  unfold forcedLane at h
  split at h <;> cases h
  rfl

theorem faultRecord_inRange (f : FaultUnit) (t : TableStore) : (faultRecord f t).InRange := by
  constructor <;> (intro x hx; rw [forcedLane_eq_zero hx]; decide)

/-! ### The standing property of the limits -/

theorem State.recordsAtStart_inRange {s : State} (h : ∀ r ∈ s.limits.records, r.InRange) :
    ∀ r ∈ s.recordsAtStart.records, r.InRange := by
  rw [Limits.forall_records] at h ⊢
  obtain ⟨hstatic, hengine, hinverter, -, hbrake, -, -⟩ := h
  obtain ⟨hfe, hfi, hfb⟩ := fallback_inRange
  refine ⟨hstatic, ?_, ?_, batteryRecord_inRange _ _ _, ?_, watchRecord_inRange _ _, faultRecord_inRange _ _⟩ <;>
    simp only [State.recordsAtStart] <;> split <;> assumption

/-- The records with STATIC taken from new working parameters. -/
theorem Limits.records_static {x : Limits} (h : ∀ r ∈ x.records, r.InRange) (wp : WorkingParams) :
    ∀ r ∈ Limits.records { x with static := staticRecord wp }, r.InRange := by
  rw [Limits.forall_records] at h ⊢
  exact ⟨staticRecord_inRange wp, h.2⟩

/-- A latch changes the limits in STATIC only, and of a cycle under way not its lanes. -/
theorem LimitsInv.adopt {s : State} (h : LimitsInv s) (b : BankName) : LimitsInv (s.adopt b) where
  records := Limits.records_static h.records _
  combined := h.combined
  cycle c hc := by
    obtain ⟨c', hc', rfl⟩ := Option.map_eq_some_iff.1 hc
    exact h.cycle c' hc'

theorem LimitsInv.congr {s t : State} (h : LimitsInv s) (hl : t.limits = s.limits)
    (hc : t.split.cycle = s.split.cycle) : LimitsInv t := ⟨hl ▸ h.records, hl ▸ h.combined, hc ▸ h.cycle⟩

theorem LimitsInv.takeSwap {s : State} (h : LimitsInv s) : LimitsInv s.takeSwap := by
  unfold State.takeSwap
  simp only
  split
  · exact h.congr rfl rfl
  · exact (h.adopt s.tables.shadow).congr rfl rfl

theorem LimitsInv.startCycle {s : State} (h : LimitsInv s) (k : CycleKind) : LimitsInv (s.startCycle k) := by
  have hswap : LimitsInv (s.setSplit { s.split with waiting := none }).settle.swapAtStart := by
    unfold State.swapAtStart
    have hsettle : LimitsInv (s.setSplit { s.split with waiting := none }).settle := h.congr rfl rfl
    split
    · exact hsettle.takeSwap
    · exact hsettle
  have hrecords := State.recordsAtStart_inRange (s := (s.setSplit { s.split with waiting := none }
    ).settle.swapAtStart.readWatchTable) (by simpa using hswap.records)
  have hcombined := Limits.combine_inRange hrecords
  refine ⟨hrecords, hcombined, ?_⟩
  rintro c ⟨⟩
  exact hcombined

/-- What an acceptance makes of the limits (R51, R52). -/
theorem State.handAcceptance_limits (s : State) (r : Role) : (s.handAcceptance r).limits = (match r with
    | .inverter => { s.limits with inverter := inverterRecord s.intake.inverter }
    | .engine => { s.limits with engine := engineRecord s.intake.engine }
    | .brake => { s.limits with brake := brakeRecord s.intake.brake }
    | .demand | .battery | .clutch => s.limits) := by
  cases r <;> simp [State.handAcceptance, State.issueStart, State.handBattery, State.handInverter, State.handEngine,
    State.handClutch, State.handBrake]

theorem LimitsInv.handAcceptance {s : State} (h : LimitsInv s) (r : Role) : LimitsInv (s.handAcceptance r) := by
  have hcycle : (s.handAcceptance r).split.cycle = s.split.cycle := by
    cases r <;> simp [State.handAcceptance, State.handBattery, State.handInverter, State.handEngine,
      State.handClutch, State.handBrake]
  obtain ⟨hstatic, hengine, hinverter, hbattery, hbrake, hwatch, hfault⟩ := Limits.forall_records.1 h.records
  refine ⟨?_, ?_, hcycle ▸ h.cycle⟩
  · rw [State.handAcceptance_limits, Limits.forall_records]
    cases r
    case inverter => exact ⟨hstatic, hengine, inverterRecord_inRange _, hbattery, hbrake, hwatch, hfault⟩
    case engine => exact ⟨hstatic, engineRecord_inRange _, hinverter, hbattery, hbrake, hwatch, hfault⟩
    case brake => exact ⟨hstatic, hengine, hinverter, hbattery, brakeRecord_inRange _, hwatch, hfault⟩
    all_goals exact ⟨hstatic, hengine, hinverter, hbattery, hbrake, hwatch, hfault⟩
  · rw [State.handAcceptance_limits]
    cases r <;> exact h.combined

theorem limitsInv_reset : (∀ r ∈ resetLimits.records, r.InRange) ∧ resetLimits.combined.InRange := by
  refine ⟨?_, by constructor <;> decide⟩
  rw [Limits.forall_records]
  refine ⟨?_, ?_, ?_, ?_, ?_, ?_, ?_⟩ <;> constructor <;> simp [resetLimits, absentRecord]

theorem State.Move.limitsInv {s t : State} (h : s.Move t) (hs : LimitsInv s) : LimitsInv t := by
  cases h with
  | powerOn | pin => exact ⟨by simpa using limitsInv_reset.1, by simpa using limitsInv_reset.2, by simp [resetSplit]⟩
  | commitPassed =>
    unfold State.commitPassed
    simp only
    split
    · exact LimitsInv.takeSwap (hs.congr rfl rfl)
    · exact hs.congr rfl rfl
  | pinResetPassed =>
    unfold State.pinResetPassed
    simp only
    split
    · exact hs.congr rfl rfl
    · exact (hs.adopt s.tables.walkedBank).congr rfl rfl
  | accepted r f => exact LimitsInv.handAcceptance (hs.congr (by simp) (by simp)) r
  | started k => exact hs.startCycle k
  | completed cyc =>
    exact ⟨by simpa using hs.records, by simpa using hs.combined,
      by simp [State.completeCycle_split, SplitState.completed]⟩
  | wrote _ name i field v _ _ hw =>
    exact hs.congr (by rw [State.writeField_frame hw]) (by rw [State.writeField_frame hw])
  | _ => exact hs.congr (by simp) (by simp)

/-! ### The watch entries -/

/-- The values of a watch entry lie in their ranges (R143 to R145). -/
structure WatchEntry.InRange (e : WatchEntry) : Prop where
  threshold : e.quantity.range.1 ≤ e.threshold ∧ e.threshold ≤ e.quantity.range.2
  hysteresis : 0 ≤ e.hysteresis ∧ e.hysteresis ≤ 500
  actionValue : 0 ≤ e.actionValue ∧ e.actionValue ≤ 400

theorem watchEntriesInv_iff (s : State) :
    WatchEntriesInv s ↔ ∀ (i : Fin 16) (e : WatchEntry), s.tables.watch[i] = .passing e → e.InRange :=
  ⟨fun h i e he => ⟨h.threshold i e he, h.hysteresis i e he, h.actionValue i e he⟩,
    fun h => ⟨fun i e he => (h i e he).threshold, fun i e he => (h i e he).hysteresis,
      fun i e he => (h i e he).actionValue⟩⟩

theorem clearedWatchEntry_inRange : clearedWatchEntry.InRange := by constructor <;> decide

/-- A field that a WRITE replaces is in its range; the threshold is tested apart. -/
theorem WatchEntry.write_inRange {e e' : WatchEntry} {field : Nat} {v : Int} (h : e.InRange)
    (hw : e.write field v = some e') (hok : e'.thresholdOk = true) : e'.InRange := by
  suffices hkept : (0 ≤ e'.hysteresis ∧ e'.hysteresis ≤ 500) ∧ (0 ≤ e'.actionValue ∧ e'.actionValue ≤ 400) from
    ⟨of_decide_eq_true hok, hkept.1, hkept.2⟩
  unfold WatchEntry.write at hw
  split at hw
  case h_1 | h_2 | h_3 | h_7 =>
    obtain ⟨x, -, rfl⟩ := Option.map_eq_some_iff.1 hw
    exact ⟨h.hysteresis, h.actionValue⟩
  case h_4 => cases hw; exact ⟨h.hysteresis, h.actionValue⟩
  case h_5 =>
    obtain ⟨hv, hw⟩ := Option.ite_none_right_eq_some.1 hw
    cases hw; exact ⟨hv, h.actionValue⟩
  case h_6 =>
    obtain ⟨-, hw⟩ := Option.ite_none_right_eq_some.1 hw
    cases hw; exact ⟨h.hysteresis, h.actionValue⟩
  case h_8 =>
    obtain ⟨hv, hw⟩ := Option.ite_none_right_eq_some.1 hw
    cases hw; exact ⟨h.hysteresis, hv⟩
  case h_9 => cases hw

/-- What a WRITE leaves of a watch entry comes from a passing entry, with its threshold tested. -/
theorem TableStore.watchWritten_eq_some {t : TableStore} {i field : Nat} {v : Int} {e' : WatchEntry}
    (h : t.watchWritten i field v = some e') :
    ∃ e, t.watch[i]? = some (.passing e) ∧ e.write field v = some e' ∧ e'.thresholdOk = true := by
  unfold TableStore.watchWritten at h
  split at h
  · next e he =>
    obtain ⟨hw, hok⟩ := Option.filter_eq_some_iff.1 h
    refine ⟨e, ?_, hw, hok⟩
    cases hi : t.watch[i]? with
    | none => rw [hi] at he; cases he
    | some x => rw [hi] at he; exact congrArg some he
  · cases h

/-- Replacing one entry of a live table, or making it fail, keeps what holds of every passing entry. -/
theorem forall_passing_setIfInBounds {α : Type} {n : Nat} {P : α → Prop} {v : Vector (Checked α) n} {j : Nat}
    {x : Checked α} (h : ∀ (i : Fin n) (e : α), v[i] = .passing e → P e) (hx : ∀ e, x = .passing e → P e) :
    ∀ (i : Fin n) (e : α), (v.setIfInBounds j x)[i] = .passing e → P e := by
  intro i e he
  simp only [Fin.getElem_fin, Vector.getElem_setIfInBounds] at he
  split at he
  · exact hx e he
  · exact h i e he

theorem State.Move.watchEntriesInv {s t : State} (h : s.Move t) (hs : WatchEntriesInv s) : WatchEntriesInv t := by
  rw [watchEntriesInv_iff] at hs ⊢
  have congr (hw : t.tables.watch = s.tables.watch) : ∀ (i : Fin 16) (e : WatchEntry),
      t.tables.watch[i] = .passing e → e.InRange := hw ▸ hs
  cases h with
  | powerOn =>
    intro i e he
    have hcleared : e = clearedWatchEntry := by simpa [powerOnTables, eq_comm] using he
    exact hcleared ▸ clearedWatchEntry_inRange
  | upset e =>
    rcases e with ⟨b, tbl, i⟩ | ⟨l, i⟩
    · refine congr ?_
      simp only [State.setTables_tables, TableStore.strike, TableStore.writeBank]
      split <;> simp
    · cases l with
      | forward =>
        refine congr ?_
        simp only [State.setTables_tables, TableStore.strike]
        split <;> rfl
      | watch => exact forall_passing_setIfInBounds hs nofun
      | faultMap => exact congr rfl
  | wrote _ name i field v _ _ hw =>
    rcases State.writeField_cases hw with ⟨tbl, f, -, -, rfl⟩ | ⟨e, -, -, -, rfl⟩ | ⟨e, -, -, -, rfl⟩ |
      ⟨e, -, he, rfl⟩ | ⟨e, -, -, rfl⟩
    case inr.inr.inr.inl =>
      obtain ⟨e0, hstood, hwritten, hok⟩ := TableStore.watchWritten_eq_some he
      obtain ⟨hi, hstood⟩ := Vector.getElem?_eq_some_iff.1 hstood
      have hrange := WatchEntry.write_inRange (hs ⟨i, hi⟩ e0 hstood) hwritten hok
      exact forall_passing_setIfInBounds hs (by rintro _ ⟨⟩; exact hrange)
    all_goals exact congr (by simp [TableStore.putBank, TableStore.writeBank])
  | entryReset name i =>
    rcases name with tbl | l
    · exact congr (by simp [State.resetEntry, TableStore.putBank, TableStore.writeBank])
    · cases l with
      | forward => exact congr (by simp only [State.resetEntry]; split <;> rfl)
      | watch => exact forall_passing_setIfInBounds hs (by rintro _ ⟨⟩; exact clearedWatchEntry_inRange)
      | faultMap => exact congr rfl
  | pin => exact congr rfl
  | _ => exact congr (by simp)

/-! ### The obligation -/

/-- Settles O19: each of the three properties is kept by every move. -/
theorem stepKeepsValuesInRange : Obligations.StepKeepsValuesInRange :=
  ⟨fun _ _ hs => step_keeps (I := fun s => StoredInRange s.intake) (fun _ _ h => h)
      (fun _ _ => State.Move.storedInRange) hs,
    fun _ _ hs => step_keeps (fun _ _ h => ⟨h.records, h.combined, h.cycle⟩) (fun _ _ => State.Move.limitsInv) hs,
    fun _ _ hs => step_keeps (fun _ _ h => ⟨h.threshold, h.hysteresis, h.actionValue⟩)
      (fun _ _ => State.Move.watchEntriesInv) hs⟩

end Sys2Proof.Machine
end

section
/-! PROOFS. Ports, slots and queues: what the arbiter chooses, how attempts begin and end, and that counts, states,
slots and queues stay fitted to each other (R158, R160, R163, R164, R175 to R178). -/

namespace Sys2Proof.Machine

/-! ### Error states -/

/-- The error state a port below BUS_OFF takes is told by its counts alone. -/
theorem PortState.settled_error_of_ne {x : PortState} (he : x.error ≠ .busOff) : x.settled.error =
    if 255 < x.txCount then .busOff
    else if x.txCount ≤ 127 ∧ x.rxCount ≤ 127 then .errorActive else .errorPassive := by
  rw [x.settled_error]
  cases hstood : x.error with
  | errorActive =>
    simp only
    split_ifs <;> first | rfl | omega
  | errorPassive => rfl
  | busOff => exact absurd hstood he

/-- A port takes from counts in their ranges an error state that fits them, unless it would enter BUS_OFF during an
attempt. -/
theorem PortState.settled_consistent {x : PortState} (htx : x.txCount ≤ 256) (hrx : x.rxCount ≤ 255)
    (hrecovery : x.recovery < 128) (hattempt : 255 < x.txCount → x.attempt = none)
    (hbusOff : x.error = .busOff → 255 < x.txCount) : x.settled.Consistent := by
  have fits {e : ErrorState} (he : x.settled.error = e) (h : (PortState.Consistent { x with error := e })) :
      x.settled.Consistent := by rw [x.settled_frame, he]; exact h
  by_cases hover : 255 < x.txCount
  · have he : x.settled.error = .busOff := by rw [x.settled_error]; cases x.error <;> simp [hover]
    exact fits he ⟨htx, hrx, hrecovery, nofun, nofun, fun _ => ⟨hover, hattempt hover⟩⟩
  · have he := PortState.settled_error_of_ne fun h => hover (hbusOff h)
    rw [if_neg hover] at he
    by_cases hlow : x.txCount ≤ 127 ∧ x.rxCount ≤ 127
    · exact fits (he.trans (if_pos hlow)) ⟨htx, hrx, hrecovery, fun _ => hlow, nofun, nofun⟩
    · refine fits (he.trans (if_neg hlow)) ⟨htx, hrx, hrecovery, nofun, fun _ => ⟨?_, ?_⟩, nofun⟩
      · exact not_lt.1 hover
      · simp only; omega

/-- A port below BUS_OFF that keeps its transmit count within 255 stays below BUS_OFF. -/
theorem PortState.settled_error_ne_busOff {x : PortState} (he : x.error ≠ .busOff) (htx : x.txCount ≤ 255) :
    x.settled.error ≠ .busOff := by
  rw [PortState.settled_error_of_ne he, if_neg (not_lt.2 htx)]
  split <;> simp

/-- The transmit count of a consistent port below BUS_OFF. -/
theorem PortState.Consistent.txCount_le {x : PortState} (h : x.Consistent) (he : x.error ≠ .busOff) :
    x.txCount ≤ 255 := by
  cases hstood : x.error with
  | errorActive => have := h.active hstood; omega
  | errorPassive => exact (h.passive hstood).1
  | busOff => exact absurd hstood he

/-- A change of the receive count of a port below BUS_OFF. -/
theorem PortState.Consistent.recounted {x : PortState} (h : x.Consistent) (he : x.error ≠ .busOff) {n : Nat}
    (hn : n ≤ 255) : (PortState.settled { x with rxCount := n }).Consistent ∧
      (PortState.settled { x with rxCount := n }).error ≠ .busOff := by
  have htx := h.txCount_le he
  exact ⟨PortState.settled_consistent h.tx hn h.recovery (fun hc => absurd htx (by simpa using hc))
    (fun hc => absurd hc he), PortState.settled_error_ne_busOff (x := { x with rxCount := n }) he htx⟩

/-! ### Slots -/

@[simp] theorem ByPort.set_set {α : Type} (x : ByPort α) (p : Port) (v w : α) : (x.set p v).set p w = x.set p w := by
  cases p <;> rfl

theorem Slots.get_move (x : Slots) (h : Holder) (f : Slot → Slot) (n : SlotName) :
    (x.move h f).get n = if h = .slot n then f (x.get n) else x.get n := by
  cases h with
  | slot m =>
    simp only [Slots.move, Slots.get_set, Holder.slot.injEq]
    by_cases hn : n = m
    · subst hn; simp
    · simp [hn, Ne.symm hn]
  | notice => simp [Slots.move]
  | forward => simp [Slots.move]

/-! ### The arbiter (R163) -/

theorem mem_holdersOf_slot (p : Port) (n : SlotName) : .slot n ∈ holdersOf p ↔ SlotName.port n = p := by
  cases p <;> cases n <;> decide

theorem mem_holdersOf_notice (p : Port) : .notice ∈ holdersOf p ↔ p = .portU := by cases p <;> decide

theorem lowest_mem {l : List Attempt} {a : Attempt} (h : lowest l = some a) : a ∈ l := by
  induction l with
  | nil => cases h
  | cons x xs ih =>
    unfold lowest at h
    cases hxs : lowest xs with
    | none => rw [hxs] at h; cases h; exact List.mem_cons_self
    | some y =>
      simp only [hxs] at h
      split at h
      · cases h; exact List.mem_cons_self
      · exact List.mem_cons_of_mem _ (ih (hxs.trans h))

theorem State.mem_candidates (s : State) (p : Port) (a : Attempt) :
    a ∈ s.candidates p ↔ a.holder ∈ holdersOf p ∧ s.candidate p a.holder = some a.frame := by
  simp only [State.candidates, List.mem_filterMap, Option.map_eq_some_iff]
  constructor
  · rintro ⟨h, hh, f, hf, rfl⟩; exact ⟨hh, hf⟩
  · rintro ⟨hh, hf⟩; exact ⟨_, hh, _, hf, rfl⟩

/-- A choice of the arbiter is a candidate of a port that may begin an attempt. -/
theorem State.arbiterChoice_eq_some {s : State} {p : Port} {a : Attempt} (h : s.arbiterChoice p = some a) :
    (s.ports.port.get p).error ≠ .busOff ∧ (s.ports.port.get p).attempt = none ∧ a.holder ∈ holdersOf p ∧
      s.candidate p a.holder = some a.frame := by
  unfold State.arbiterChoice at h
  simp only at h
  split at h
  · cases h
  · next hfree =>
    obtain ⟨honline, hnone⟩ := not_or.1 hfree
    exact ⟨honline, by simpa using hnone, (s.mem_candidates p a).1 (lowest_mem h)⟩

/-- A slot that is a candidate waits. -/
theorem State.candidate_slot {s : State} {p : Port} {n : SlotName} {f : Frame}
    (h : s.candidate p (.slot n) = some f) : ∃ c, s.ports.slots.get n = .waiting c := by
  cases hs : s.ports.slots.get n with
  | waiting c => exact ⟨c, rfl⟩
  | _ => simp [State.candidate, hs] at h

/-! ### The notice queue (R150) -/

/-- An evaluation adds notices at the tail of the queue, up to 8, and takes none away. -/
structure WatchUnit.QueueGrows (w w' : WatchUnit) : Prop where
  keeps : w.queue ≠ [] → w'.queue ≠ []
  bound : w.queue.length ≤ 8 → w'.queue.length ≤ 8

theorem WatchUnit.QueueGrows.of_eq {w w' : WatchUnit} (h : w'.queue = w.queue) : w.QueueGrows w' :=
  ⟨fun hw => h ▸ hw, fun hw => h ▸ hw⟩

theorem WatchUnit.QueueGrows.trans {w w' w'' : WatchUnit} (h : w.QueueGrows w') (h' : w'.QueueGrows w'') :
    w.QueueGrows w'' := ⟨h'.keeps ∘ h.keeps, h'.bound ∘ h.bound⟩

theorem WatchUnit.offer_grows {w w' : WatchUnit} (hq : w'.queue = w.queue) (n : QueuedNotice) :
    w.QueueGrows (w'.offer n) := by
  refine .trans (.of_eq hq) ?_
  rcases w'.offer_cases n with ⟨hroom, e⟩ | ⟨-, e⟩ <;> rw [e]
  · exact ⟨fun _ => by simp, fun _ => by simp only [List.length_append, List.length_singleton]; omega⟩
  · exact .of_eq rfl

theorem WatchUnit.evaluateOne_grows (t : TableStore) (ev : Evaluation) (m : Mode) (count : BitVec 16) (ix : Nat)
    (w : WatchUnit) (i : Fin 16) : w.QueueGrows (w.evaluateOne t ev m count ix i) := by
  unfold WatchUnit.evaluateOne
  simp only
  split
  · split_ifs <;> exact .of_eq rfl
  · split
    · exact .of_eq rfl
    · split_ifs
      · refine WatchUnit.offer_grows ?_ _; rfl
      · exact .of_eq rfl
      · exact .of_eq rfl

theorem WatchUnit.evaluate_grows (t : TableStore) (ev : Evaluation) (m : Mode) (count : BitVec 16) (ix : Nat)
    (w : WatchUnit) : w.QueueGrows (w.evaluate t ev m count ix) := by
  unfold WatchUnit.evaluate
  induction watchIndices generalizing w with
  | nil => exact .of_eq rfl
  | cons i is ih => exact .trans (WatchUnit.evaluateOne_grows _ _ _ _ _ _ _) (ih _)

theorem State.evaluateWatches_grows (s : State) (ev : Evaluation) (m : Mode) :
    s.watch.QueueGrows (s.evaluateWatches ev m).watch := WatchUnit.evaluate_grows _ _ _ _ _ _

theorem State.handAcceptance_grows (s : State) (r : Role) : s.watch.QueueGrows (s.handAcceptance r).watch := by
  cases r with
  | demand | clutch | brake => exact .of_eq (by simp [State.handAcceptance, State.handClutch, State.handBrake])
  | battery =>
    exact .trans (.of_eq (by simp)) (State.evaluateWatches_grows (s.handFlag srcContactorOpen _) _ _)
  | inverter => exact .trans (.of_eq (by simp)) (State.evaluateWatches_grows _ _ _)
  | engine => exact .trans (.of_eq (by simp)) (State.evaluateWatches_grows _ _ _)

/-! ### The standing property of the ports -/

/-- A change outside the ports and the queues, but for notices that joined and overflow flags. -/
theorem PortsInv.congr {s t : State} (h : PortsInv s) (hports : t.ports = s.ports)
    (hwatch : s.watch.QueueGrows t.watch) (hframes : ∀ p, (t.forward.get p).frames = (s.forward.get p).frames) :
    PortsInv t where
  consistent := hports ▸ h.consistent
  notices := hwatch.bound h.notices
  frames p := hframes p ▸ h.frames p
  busOffQueue p := by rw [hports, hframes]; exact h.busOffQueue p
  stands p a ha := by
    have hs := h.stands p a (hports ▸ ha)
    unfold State.HolderStands at hs ⊢
    split at hs
    · rw [hports]; exact hs
    · exact hs.imp_right hwatch.keeps
    · rw [hframes]; exact hs
  onBus := hports ▸ h.onBus
  replies := hports ▸ h.replies

/-- A change of the counts and error state of one port that leaves its attempt in progress. -/
theorem PortsInv.setPort {s : State} (h : PortsInv s) (p : Port) {x : PortState} (hx : x.Consistent)
    (hattempt : x.attempt = (s.ports.port.get p).attempt)
    (hbusOff : x.error = .busOff → (s.ports.port.get p).error = .busOff) : PortsInv (s.setPort p x) := by
  have hat (p' : Port) : ((s.ports.port.set p x).get p').attempt = (s.ports.port.get p').attempt := by
    rw [ByPort.get_set]
    split
    · next hp => rw [hp, hattempt]
    · rfl
  exact
    { consistent := fun p' => by
        simp only [State.setPort, State.setPorts_ports, ByPort.get_set]
        split
        · exact hx
        · exact h.consistent p'
      notices := h.notices
      frames := h.frames
      busOffQueue := fun p' hp' => by
        simp only [State.setPort, State.setPorts_ports, ByPort.get_set] at hp'
        split at hp'
        · next he => subst he; exact h.busOffQueue p' (hbusOff hp')
        · exact h.busOffQueue p' hp'
      stands := fun p' a ha => h.stands p' a ((hat p').symm.trans ha)
      onBus := fun n hn => by
        obtain ⟨a, ha, hholder⟩ := h.onBus n hn
        exact ⟨a, (hat _).trans ha, hholder⟩
      replies := h.replies }

/-- The end of an attempt: its slot leaves the bus, its port is without an attempt, and the queue it was the head of may
change with it. -/
theorem PortsInv.endAttempt {s t : State} (h : PortsInv s) {p : Port} {a : Attempt}
    (ha : (s.ports.port.get p).attempt = some a) {x : PortState} {f : Slot → Slot}
    (hf : ∀ y, (f y).onBus = false) (hslots : t.ports.slots = s.ports.slots.move a.holder f)
    (hport : t.ports.port = s.ports.port.set p x) (hx : x.Consistent) (hnone : x.attempt = none)
    (hnotices : t.watch.queue.length ≤ 8) (hnotice : p ≠ .portU → t.watch.queue = s.watch.queue)
    (hframes : ∀ p', (t.forward.get p').frames.length ≤ 16)
    (hforward : ∀ p', p' ≠ p → (t.forward.get p').frames = (s.forward.get p').frames)
    (hempty : x.error = .busOff → (t.forward.get p).frames = []) : PortsInv t := by
  have hget (p' : Port) : t.ports.port.get p' = if p' = p then x else s.ports.port.get p' := by
    rw [hport, ByPort.get_set]
  have hslot (n : SlotName) : t.ports.slots.get n =
      if a.holder = .slot n then f (s.ports.slots.get n) else s.ports.slots.get n := by rw [hslots, Slots.get_move]
  exact
    { consistent := fun p' => by
        rw [hget]
        split
        · exact hx
        · exact h.consistent p'
      notices := hnotices
      frames := hframes
      busOffQueue := fun p' hp' => by
        rw [hget] at hp'
        split at hp'
        · next he => subst he; exact hempty hp'
        · next he => rw [hforward p' he]; exact h.busOffQueue p' hp'
      stands := fun p' b hb => by
        rw [hget] at hb
        split at hb
        · rw [hnone] at hb; cases hb
        · next he =>
          have hs := h.stands p' b hb
          unfold State.HolderStands at hs ⊢
          split at hs
          · next n hn =>
            have hother : a.holder ≠ .slot n := fun hsame => by
              have hsa := h.stands p a ha
              unfold State.HolderStands at hsa
              simp only [hsame] at hsa
              exact he (hs.1.symm.trans hsa.1)
            rw [hslot, if_neg hother]
            exact hs
          · obtain ⟨hU, hne⟩ := hs
            rw [hnotice fun hp => he (hU.trans hp.symm)]
            exact ⟨hU, hne⟩
          · rw [hforward p' he]; exact hs
      onBus := fun n hn => by
        rw [hslot] at hn
        split at hn
        · rw [hf] at hn; cases hn
        · next hother =>
          obtain ⟨b, hb, hholder⟩ := h.onBus n hn
          refine ⟨b, ?_, hholder⟩
          rw [hget, if_neg]
          · exact hb
          · rintro hp
            rw [hp, ha] at hb
            cases hb
            exact hother hholder
      replies := fun q c d hc => by
        rw [hslot] at hc
        split at hc
        · have := hf (s.ports.slots.get (replySlot q))
          rw [hc] at this
          cases this
        · exact h.replies q c d hc }

/-- A placed content keeps what is on the bus; a reply slot takes one only while it is EMPTY. -/
theorem PortsInv.place {s : State} (h : PortsInv s) (n : SlotName) (c : Content)
    (hreply : ∀ q, n = replySlot q → s.ports.slots.get n = .empty) : PortsInv (s.place n c) := by
  have hbus (n' : SlotName) : ((s.place n c).ports.slots.get n').onBus = (s.ports.slots.get n').onBus := by
    rw [State.place_slots]
    split
    · next hn => rw [Slot.onBus_place, hn]
    · rfl
  exact
    { consistent := h.consistent, notices := h.notices, frames := h.frames, busOffQueue := h.busOffQueue
      stands := fun p a ha => by
        have hs := h.stands p a ha
        unfold State.HolderStands at hs ⊢
        split at hs
        · next n' _ => exact ⟨hs.1, (hbus n').trans hs.2⟩
        · exact hs
        · exact hs
      onBus := fun n' hn' => h.onBus n' ((hbus n').symm.trans hn')
      replies := fun q c' d hc => by
        rw [State.place_slots] at hc
        split at hc
        · next hn => rw [hreply q hn.symm] at hc; cases hc
        · exact h.replies q c' d hc }

theorem PortsInv.fillSlots {s : State} (h : PortsInv s) (cyc : CycleInputs) (x : CycleResult) :
    PortsInv (s.fillSlots cyc x) := by
  have filler {u : State} (hu : PortsInv u) {n : SlotName} (c : Content) (hn : ∀ q, n ≠ replySlot q) :
      PortsInv (u.place n c) := hu.place n c fun q hq => absurd hq (hn q)
  have hfour := filler (filler (filler (filler h (n := .engineCmd) ⟨identOf cyc.wp.idEngineCmd,
    engineCmdOf cyc x.projection.engine⟩ (by rintro ⟨⟩ <;> decide)) (n := .inverterCmd) ⟨identOf cyc.wp.idInverterCmd,
    inverterCmdOf cyc x.projection.motor⟩ (by rintro ⟨⟩ <;> decide)) (n := .clutchCmd) ⟨identOf cyc.wp.idClutchCmd,
    clutchCmdOf cyc x.projection.engine⟩ (by rintro ⟨⟩ <;> decide)) (n := .brakeShare) ⟨identOf cyc.wp.idBrakeShare,
    brakeShareOf x.projection⟩ (by rintro ⟨⟩ <;> decide)
  unfold State.fillSlots
  simp only
  split
  · exact filler hfour _ (by rintro ⟨⟩ <;> decide)
  · exact hfour

/-- A frame that joins a forward queue joins at its tail, below 16, at a port that is not BUS_OFF. -/
theorem PortsInv.offerForward {s : State} (h : PortsInv s) (p : Port) (f : Frame) : PortsInv (s.offerForward p f) := by
  rcases s.offerForward_cases p f with ⟨-, e⟩ | ⟨-, -, e⟩ | ⟨honline, hroom, e⟩ <;> rw [e]
  · exact h
  · refine h.congr rfl (.of_eq rfl) fun p' => ?_
    rw [State.setForward_forward, ByPort.get_set]
    split
    · next hp => rw [hp]
    · rfl
  · have hframes (p' : Port) : ((s.forward.set p { s.forward.get p with
        frames := (s.forward.get p).frames ++ [f] }).get p').frames =
        if p' = p then (s.forward.get p).frames ++ [f] else (s.forward.get p').frames := by
      rw [ByPort.get_set]; split <;> rfl
    exact
      { consistent := h.consistent, notices := h.notices, onBus := h.onBus, replies := h.replies
        frames := fun p' => by
          rw [State.setForward_forward, hframes]
          split
          · simpa using hroom
          · exact h.frames p'
        busOffQueue := fun p' hp' => by
          rw [State.setForward_forward, hframes]
          split
          · next hp => exact absurd (hp ▸ hp') honline
          · exact h.busOffQueue p' hp'
        stands := fun p' a ha => by
          have hs := h.stands p' a ha
          unfold State.HolderStands at hs ⊢
          split at hs
          · exact hs
          · exact hs
          · rw [State.setForward_forward, hframes]
            split
            · next hp =>
              subst hp
              rw [List.head?_append, hs]; rfl
            · exact hs }

/-- A transmit start puts the candidate chosen on the bus of a port that had no attempt. -/
theorem PortsInv.transmitStart {s : State} (h : PortsInv s) {p : Port} {a : Attempt}
    (ha : s.arbiterChoice p = some a) : PortsInv (s.setPorts { s.ports with
      slots := s.ports.slots.move a.holder Slot.start
      port := s.ports.port.set p { s.ports.port.get p with attempt := some a } }) := by
  obtain ⟨honline, hidle, hholder, hcandidate⟩ := State.arbiterChoice_eq_some ha
  have hbus (n : SlotName) : ((s.ports.slots.move a.holder Slot.start).get n).onBus =
      (decide (a.holder = .slot n) || (s.ports.slots.get n).onBus) := by
    rw [Slots.get_move]
    split
    · next hn =>
      obtain ⟨c, hc⟩ := State.candidate_slot (hn ▸ hcandidate)
      simp [hc, hn, Slot.start, Slot.onBus]
    · next hn => simp [hn]
  exact
    { notices := h.notices, frames := h.frames
      consistent := fun p' => by
        simp only [State.setPorts_ports, ByPort.get_set]
        split
        · exact { h.consistent p with busOff := fun hc => absurd hc honline }
        · exact h.consistent p'
      busOffQueue := fun p' hp' => by
        simp only [State.setPorts_ports, ByPort.get_set] at hp'
        split at hp'
        · exact absurd hp' honline
        · exact h.busOffQueue p' hp'
      stands := fun p' b hb => by
        simp only [State.setPorts_ports, ByPort.get_set] at hb
        split at hb
        · next hp =>
          cases hb; subst hp
          unfold State.HolderStands
          split
          · next n hn =>
            exact ⟨(mem_holdersOf_slot _ _).1 (hn ▸ hholder), by rw [State.setPorts_ports, hbus]; simp [hn]⟩
          · next hn =>
            refine ⟨(mem_holdersOf_notice _).1 (hn ▸ hholder), fun hempty => ?_⟩
            rw [hn] at hcandidate
            simp only [State.setPorts_watch] at hempty
            simp [State.candidate, hempty] at hcandidate
          · next hn => rw [hn] at hcandidate; exact hcandidate
        · have hs := h.stands p' b hb
          unfold State.HolderStands at hs ⊢
          split at hs
          · next n _ => exact ⟨hs.1, by simp [hbus, hs.2]⟩
          · exact hs
          · exact hs
      onBus := fun n hn => by
        simp only [State.setPorts_ports, hbus, Bool.or_eq_true, decide_eq_true_eq, ByPort.get_set] at hn ⊢
        by_cases hchosen : a.holder = .slot n
        · rw [if_pos ((mem_holdersOf_slot _ _).1 (hchosen ▸ hholder))]
          exact ⟨a, rfl, hchosen⟩
        · obtain ⟨b, hb, hslot⟩ := h.onBus n (hn.resolve_left hchosen)
          rw [if_neg fun hp => by rw [hp, hidle] at hb; cases hb]
          exact ⟨b, hb, hslot⟩
      replies := fun q c d hc => by
        simp only [State.setPorts_ports, Slots.get_move] at hc
        split at hc
        · next hn =>
          obtain ⟨c', hc'⟩ := State.candidate_slot (hn ▸ hcandidate)
          rw [hc'] at hc; cases hc
        · exact h.replies q c d hc }

theorem State.dequeue_watch (s : State) (p : Port) (h : Holder) :
    (s.dequeue p h).watch.queue = if h = .notice then s.watch.queue.tail else s.watch.queue := by
  cases h <;> rfl

theorem State.dequeue_frames (s : State) (p p' : Port) (h : Holder) : ((s.dequeue p h).forward.get p').frames =
    if h = .forward ∧ p' = p then (s.forward.get p).frames.tail else (s.forward.get p').frames := by
  cases h with
  | forward =>
    simp only [State.dequeue, State.setForward_forward, ByPort.get_set, true_and]
    split <;> rfl
  | slot n => rfl
  | notice => rfl

/-- A completion of transmission lowers the transmit count of a port that was not BUS_OFF. -/
theorem PortsInv.transmitted {s : State} (h : PortsInv s) {p : Port} {a : Attempt}
    (ha : (s.ports.port.get p).attempt = some a) : PortsInv ((s.setPorts
      { slots := s.ports.slots.move a.holder Slot.complete
        counters := s.ports.counters.bump a.holder
        port := s.ports.port.set p (PortState.settled
          { s.ports.port.get p with attempt := none, txCount := (s.ports.port.get p).txCount - 1 }) }).dequeue
            p a.holder) := by
  have hc := h.consistent p
  have honline : (s.ports.port.get p).error ≠ .busOff := fun he => by
    rw [(hc.busOff he).2] at ha; cases ha
  have htx := hc.txCount_le honline
  generalize hx : ({ s.ports.port.get p with
    attempt := none, txCount := (s.ports.port.get p).txCount - 1 } : PortState) = x
  have hxc : x.txCount ≤ 255 ∧ x.rxCount ≤ 255 ∧ x.recovery < 128 ∧ x.attempt = none ∧ x.error ≠ .busOff := by
    subst hx
    exact ⟨by simp only; omega, hc.rx, hc.recovery, rfl, honline⟩
  obtain ⟨htx', hrx, hrecovery, hnone, hbelow⟩ := hxc
  refine h.endAttempt ha Slot.onBus_complete (by simp) (x := x.settled) (by simp)
    (PortState.settled_consistent (by omega) hrx hrecovery (fun _ => hnone) fun he => absurd he hbelow) hnone
    ?_ (fun hp => ?_) (fun p' => ?_) (fun p' hp => ?_)
    (fun he => absurd he (PortState.settled_error_ne_busOff hbelow htx'))
  · rw [State.dequeue_watch]
    have := h.notices
    split
    · simp only [State.setPorts_watch, List.length_tail]; omega
    · exact this
  · rw [State.dequeue_watch, if_neg]
    · rfl
    · intro hn
      have hs := h.stands p a ha
      unfold State.HolderStands at hs
      simp only [hn] at hs
      exact hp hs.1
  · rw [State.dequeue_frames]
    have hthis := h.frames p
    have hother := h.frames p'
    split
    · simp only [State.setPorts_forward, List.length_tail]; omega
    · exact hother
  · rw [State.dequeue_frames, if_neg fun hc => hp hc.2]
    rfl

/-- A failed attempt leaves the counts and the queues. -/
theorem PortsInv.failAttempt {s : State} (h : PortsInv s) {p : Port} {a : Attempt}
    (ha : (s.ports.port.get p).attempt = some a) : PortsInv (s.failAttempt p a) := by
  have hc := h.consistent p
  exact h.endAttempt ha Slot.onBus_fail rfl rfl { hc with busOff := fun he => ⟨(hc.busOff he).1, rfl⟩ } rfl h.notices
    (fun _ => rfl) h.frames (fun _ _ => rfl) (h.busOffQueue p)

theorem State.failAttempt_attempt (s : State) (p : Port) (a : Attempt) :
    (s.failAttempt p a).ports.port.get p = { s.ports.port.get p with attempt := none } := by
  simp [State.failAttempt]

/-- The count after an error stays within 256 (log entry 16). -/
theorem PortState.txFailed_consistent {x : PortState} (h : x.Consistent) (hnone : x.attempt = none)
    (k : TxErrorKind) : (x.txFailed k).Consistent := by
  unfold PortState.txFailed
  simp only
  have htx := h.tx
  refine PortState.settled_consistent ?_ h.rx h.recovery (fun _ => hnone) fun he => ?_
  · simp only; split <;> omega
  · have hover := (h.busOff he).1
    simp only; split <;> omega

theorem State.enterBusOff_frames (s : State) (p p' : Port) : ((s.enterBusOff p).forward.get p').frames =
    if p' = p then [] else (s.forward.get p').frames := by
  cases p <;> cases p' <;> rfl

theorem State.enterBusOff_port (s : State) (p : Port) :
    (s.enterBusOff p).ports.port = s.ports.port.set p { s.ports.port.get p with recovery := 0 } := by
  cases p <;> rfl

/-- An attempt that ends in error; entry into BUS_OFF empties the port's own queue. -/
theorem PortsInv.errorAttempt {s : State} (h : PortsInv s) {p : Port} {a : Attempt} (k : TxErrorKind)
    (ha : (s.ports.port.get p).attempt = some a) : PortsInv (s.errorAttempt p a k) := by
  have hx := PortState.txFailed_consistent ((h.failAttempt ha).consistent p) (by simp [State.failAttempt_attempt]) k
  have hnone : (((s.failAttempt p a).ports.port.get p).txFailed k).attempt = none := by
    rw [State.failAttempt_attempt]; rfl
  generalize hxe : ((s.failAttempt p a).ports.port.get p).txFailed k = x at hx hnone
  unfold State.errorAttempt
  simp only [hxe]
  split
  · next hbus =>
    have hbusx : x.error = .busOff := by simpa [State.setPort] using hbus
    refine h.endAttempt (x := { x with recovery := 0 }) ha Slot.onBus_fail (by simp [State.failAttempt])
      (by simp [State.enterBusOff_port, State.setPort, State.failAttempt]) { hx with recovery := by simp } hnone
      (by simpa using h.notices) (fun _ => by simp) (fun p' => ?_) (fun p' hp => ?_) (fun _ => ?_) <;>
      rw [State.enterBusOff_frames]
    · split
      · simp
      · exact h.frames p'
    · rw [if_neg hp]; rfl
    · rw [if_pos rfl]
  · next hbus =>
    exact h.endAttempt ha Slot.onBus_fail (by simp [State.failAttempt]) (by simp [State.setPort, State.failAttempt]) hx
      hnone h.notices (fun _ => rfl) h.frames (fun _ _ => rfl)
      fun he => absurd (by simpa [State.setPort] using he) hbus

/-- A run of 11 recessive bits counts at a port in BUS_OFF, or recovers it. -/
theorem PortsInv.recessiveRun {s : State} (h : PortsInv s) (p : Port) : PortsInv (s.recessiveRun p) := by
  have hc := h.consistent p
  rcases s.recessiveRun_cases p with ⟨-, e⟩ | ⟨hbus, hcount, e⟩ | ⟨-, -, e⟩ <;> rw [e]
  · exact h
  · exact h.setPort p { hc with recovery := by simp only; omega } rfl fun _ => hbus
  · refine (h.setPort p (x := { s.ports.port.get p with
      error := .errorActive, txCount := 0, rxCount := 0, recovery := 0 }) ?_ rfl nofun).congr ?_ (.of_eq (by simp))
      fun _ => by simp
    · exact ⟨by simp, by simp, by simp, fun _ => by simp, nofun, nofun⟩
    · cases p <;> rfl

theorem portsInv_resetBlocks (s : State) (t : TableStore) (k : ResetKind) : PortsInv (s.resetBlocks t k) where
  consistent p := by
    have hp : (s.resetBlocks t k).ports.port.get p = resetPort := by cases p <;> rfl
    rw [hp]
    exact ⟨by decide, by decide, by decide, fun _ => by decide, nofun, nofun⟩
  notices := by simp [resetWatch]
  frames p := by cases p <;> simp [resetQueue]
  busOffQueue p := by cases p <;> simp [resetQueue]
  stands p a ha := by cases p <;> simp [resetPorts, resetPort] at ha
  onBus n hn := by cases n <;> simp [resetPorts, Slots.get, Slot.onBus] at hn
  replies q c d := by cases q <;> simp [resetPorts, replySlot, Slots.get]

theorem State.Move.portsInv {s t : State} (h : s.Move t) (hs : PortsInv s) : PortsInv t := by
  cases h with
  | powerOn | pin => exact portsInv_resetBlocks _ _ _
  | resetEnd => exact hs.congr rfl (.of_eq rfl) fun _ => rfl
  | counted p _ honline =>
    have hc := hs.consistent p
    obtain ⟨hx, hbelow⟩ := hc.recounted honline (n := if 127 < (s.ports.port.get p).rxCount then 120
      else (s.ports.port.get p).rxCount - 1) (by have := hc.rx; split <;> omega)
    exact hs.setPort p hx rfl fun he => absurd he hbelow
  | receiveError p _ honline =>
    obtain ⟨hx, hbelow⟩ := (hs.consistent p).recounted honline (n := min ((s.ports.port.get p).rxCount + 1) 255)
      (by omega)
    exact hs.setPort p hx rfl fun he => absurd he hbelow
  | offered p f => exact hs.offerForward p f
  | accepted r f =>
    refine PortsInv.congr (s := s.storeFrame r f.data) (hs.congr (by simp) (.of_eq (by simp)) fun _ => by simp)
      (by simp) (State.handAcceptance_grows _ r) fun _ => by simp
  | started k =>
    obtain ⟨a, ha, -, -, -, -, hqueue, -⟩ := s.startCycle_spec k
    exact hs.congr (by simp) (.of_eq (by rw [hqueue, ha]; simp)) fun _ => by simp
  | completed cyc =>
    refine PortsInv.congr (s := s.fillSlots cyc (computeCycle s.tables s.split cyc)) (hs.fillSlots _ _)
      (s.completeCycle_ports cyc) ?_ fun _ => by simp
    simp only [State.completeCycle, State.completeRegime_keeps]
    exact .trans (.of_eq (by simp)) (State.evaluateWatches_grows _ _ _)
  | transmitStart p a _ ha => exact hs.transmitStart ha
  | transmitted p a _ ha => exact hs.transmitted ha
  | attemptFailed p a _ ha => exact hs.failAttempt ha
  | errored p a k _ ha => exact hs.errorAttempt k ha
  | recessive p => exact hs.recessiveRun p
  | flagsAcked => exact hs.congr rfl (.of_eq rfl) fun p => by cases p <;> rfl
  | replied q c _ hempty => exact hs.place _ c fun _ _ => hempty
  | wrote _ name i field v _ _ hw =>
    have hqueue : t.watch.queue = s.watch.queue := by
      rcases State.writeField_cases hw with ⟨_, _, _, _, rfl⟩ | ⟨_, _, _, _, rfl⟩ | ⟨_, _, _, _, rfl⟩ | ⟨_, _, _, rfl⟩ |
        ⟨_, _, _, rfl⟩ <;> rfl
    exact hs.congr (by rw [State.writeField_frame hw]) (.of_eq hqueue) fun _ => by rw [State.writeField_frame hw]
  | _ => exact hs.congr (by simp) (.of_eq (by simp)) fun _ => by simp

end Sys2Proof.Machine
end

section
/-! PROOFS. Lookup entries stay apart, no entry is held twice, and the bands stay within the four. -/

namespace Sys2Proof.Machine

/-! ### Lookup entries (R171) -/

theorem FwdEntry.Apart.symm {x y : FwdEntry} (h : x.Apart y) : y.Apart x := fun hy hx => by
  obtain ⟨hkey, hrole⟩ := h hx hy
  refine ⟨fun ⟨hp, hid⟩ => hkey ⟨hp.symm, hid.symm⟩, ?_⟩
  rcases hrole with hnone | hne
  · by_cases hyr : y.role = none
    · exact .inl hyr
    · exact .inr fun e => hyr (e.trans hnone)
  · exact .inr fun e => hne e.symm

theorem FwdEntry.clashes_eq_false_iff (x y : FwdEntry) : x.clashes y = false ↔ x.Apart y := by
  unfold FwdEntry.clashes FwdEntry.Apart
  cases x.valid <;> cases y.valid <;> simp
  exact fun _ => or_iff_not_imp_left.symm

/-- An entry that clashes with none is apart from every passing entry at another index. -/
theorem TableStore.apart_of_fwdClash {t : TableStore} {i : Nat} {e : FwdEntry} (h : t.fwdClash i e = false)
    (j : Fin 47) (hj : j.val ≠ i) (y : FwdEntry) (hy : t.forward[j] = .passing y) : e.Apart y := by
  have hall := List.any_eq_false.1 h j (List.mem_finRange j)
  rw [hy] at hall
  rw [← FwdEntry.clashes_eq_false_iff]
  simpa [hj] using hall

/-- A lookup entry as written clashes with no other (R171). -/
theorem TableStore.fwdWritten_eq_some {t : TableStore} {i field : Nat} {v : Int} {e : FwdEntry}
    (h : t.fwdWritten i field v = some e) : t.fwdClash i e = false := by
  unfold TableStore.fwdWritten at h
  split at h
  · simpa using (Option.filter_eq_some_iff.1 h).2
  · cases h

theorem ForwardInv.congr {s t : State} (h : ForwardInv s) (ht : t.tables.forward = s.tables.forward) :
    ForwardInv t := by
  unfold ForwardInv at h ⊢
  rwa [ht]

/-- A table with one entry replaced stays apart, when the new entry fails or is apart from the others. -/
theorem ForwardInv.replaced {s t : State} (h : ForwardInv s) {i : Nat} {e : Checked FwdEntry}
    (he : ∀ x, e = .passing x → ∀ j : Fin 47, j.val ≠ i → ∀ y, s.tables.forward[j] = .passing y → x.Apart y)
    (ht : t.tables.forward = s.tables.forward.setIfInBounds i e) : ForwardInv t := by
  intro j k hjk x y hx hy
  have hne : j.val ≠ k.val := fun e => hjk (Fin.ext e)
  rw [ht] at hx hy
  simp only [Fin.getElem_fin, Vector.getElem_setIfInBounds] at hx hy
  by_cases hj : i = j.val
  · rw [if_pos hj] at hx
    rw [if_neg (by omega)] at hy
    exact he x hx k (by omega) y hy
  · rw [if_neg hj] at hx
    by_cases hk : i = k.val
    · rw [if_pos hk] at hy
      exact (he y hy j (by omega) x hx).symm
    · rw [if_neg hk] at hy
      exact h j k hjk x y hx hy

theorem clearedFwdEntry_apart (y : FwdEntry) : clearedFwdEntry.Apart y := fun h => by
  simp [clearedFwdEntry] at h

theorem forwardInv_default {s : State} (h : s.tables.forward = defaultForward) : ForwardInv s := by
  unfold ForwardInv
  rw [h]
  have hall : ∀ i j : Fin 47, i ≠ j → (match defaultForward[i], defaultForward[j] with
      | .passing x, .passing y => !x.clashes y
      | _, _ => true) = true := by decide
  intro i j hij x y hx hy
  have hxy := hall i j hij
  rw [hx, hy] at hxy
  rw [← FwdEntry.clashes_eq_false_iff]
  simpa using hxy

theorem State.Move.forwardInv {s t : State} (h : s.Move t) (hs : ForwardInv s) : ForwardInv t := by
  cases h with
  | powerOn => exact forwardInv_default rfl
  | upset e =>
    rcases e with ⟨b, tbl, i⟩ | ⟨_ | _ | _, i⟩
    case bank =>
      refine hs.congr ?_
      simp only [State.setTables, TableStore.strike]
      split
      · simp [TableStore.writeBank]
      · rfl
    case live.forward =>
      by_cases hi : i = 47
      · exact hs.congr (by simp [State.setTables, TableStore.strike, hi])
      · exact hs.replaced (i := i) (e := .failing) nofun (by simp [State.setTables, TableStore.strike, hi])
    case live.watch => exact hs.congr rfl
    case live.faultMap => exact hs.congr rfl
  | wrote _ name i field v _ _ hw =>
    rcases State.writeField_cases hw with ⟨_, _, _, _, rfl⟩ | ⟨_, _, _, _, rfl⟩ | ⟨e, _, _, he, rfl⟩ | ⟨_, _, _, rfl⟩ |
      ⟨_, _, _, rfl⟩
    · exact hs.congr (by simp [State.setTables, TableStore.putBank, TableStore.writeBank])
    · exact hs.congr rfl
    · refine hs.replaced (i := i) (e := .passing e) (fun x hx => ?_) rfl
      cases hx
      exact TableStore.apart_of_fwdClash (TableStore.fwdWritten_eq_some he)
    · exact hs.congr rfl
    · exact hs.congr rfl
  | entryReset name i =>
    rcases name with tbl | ⟨_ | _ | _⟩
    case bank => exact hs.congr (by simp [State.resetEntry, State.setTables, TableStore.putBank, TableStore.writeBank])
    case live.forward =>
      by_cases hi : i = 47
      · exact hs.congr (by simp [State.resetEntry, State.setTables, hi])
      · refine hs.replaced (i := i) (e := .passing clearedFwdEntry) (fun x hx => ?_)
          (by simp [State.resetEntry, State.setTables, hi])
        cases hx
        exact fun j _ y _ => clearedFwdEntry_apart y
    case live.watch => exact hs.congr rfl
    case live.faultMap => exact hs.congr rfl
  | errored => exact hs.congr (by simp)
  | pin => exact hs.congr rfl
  | _ => exact hs.congr (by simp)

/-! ### Holds (R191) -/

theorem HoldsInv.congr {s t : State} (h : HoldsInv s) (ht : t.mgmt = s.mgmt) : HoldsInv t :=
  ⟨by rw [ht]; exact h.window, by rw [ht]; exact h.once⟩

/-- No entry is held by both requesters, whichever is named first. -/
theorem HoldsInv.other_ne {s : State} (h : HoldsInv s) (q : Requester) (x : HeldEntry)
    (hq : (s.mgmt.get q).hold = some x) : (s.mgmt.get q.other).hold ≠ some x := by
  cases q
  · exact h.once x hq
  · exact fun hs => h.once x hs hq

/-- One requester's record is replaced: its window fits its hold, which the other requester does not hold. -/
theorem HoldsInv.setRequester {s : State} (h : HoldsInv s) (q : Requester) {x : RequesterState}
    (hwindow : x.window.isRunning = x.hold.isSome)
    (hother : ∀ e, x.hold = some e → (s.mgmt.get q.other).hold ≠ some e) :
    HoldsInv (s.setRequester q x) := by
  refine ⟨fun r => ?_, fun e he hs => ?_⟩
  · have hr := h.window r
    cases q <;> cases r <;> assumption
  · cases q
    · exact hother e he hs
    · exact hother e hs he

theorem State.Move.holdsInv {s t : State} (h : s.Move t) (hs : HoldsInv s) : HoldsInv t := by
  cases h with
  | powerOn | pin => exact ⟨fun q => by cases q <;> rfl, nofun⟩
  | overrun q => exact hs.setRequester q (hs.window q) fun e he => hs.other_ne q e he
  | captured q => exact hs.setRequester q (hs.window q) fun e he => hs.other_ne q e he
  | released q => exact hs.setRequester q rfl nofun
  | held q l i _ hfree =>
    refine hs.setRequester q rfl fun e he hother => ?_
    simp [State.holds, hother, heldNameOf] at hfree
    cases he
    exact hfree rfl
  | renewed q name i =>
    unfold State.renewIfHeld
    split
    · next hholds =>
      refine hs.setRequester q ?_ fun e he => hs.other_ne q e he
      unfold State.holds at hholds
      split at hholds
      · next hsome _ => simp [hsome]
      · cases hholds
    · exact hs
  | wrote _ name i field v _ _ hw => exact hs.congr (by rw [State.writeField_frame hw])
  | _ => exact hs.congr (by simp)

/-! ### Bands (R66, R69) -/

theorem freshBand_le (w : WorkingParams) (soc : Int) : freshBand w soc ≤ 3 := by
  unfold freshBand
  split_ifs <;> omega

theorem movedBand_le (w : WorkingParams) (band : Nat) (soc : Int) (h : band ≤ 3) : movedBand w band soc ≤ 3 := by
  unfold movedBand
  split_ifs <;> omega

theorem selectBand_le (cyc : CycleInputs) {band : Nat} (h : band ≤ 3) : selectBand cyc band ≤ 3 := by
  unfold selectBand
  split
  · exact freshBand_le _ _
  · exact movedBand_le _ _ _ h

theorem BandInv.congr {s t : State} (h : BandInv s) (hband : t.split.band = s.split.band)
    (hhistory : t.split.history = s.split.history) : BandInv t :=
  ⟨by rw [hband]; exact h.band, by rw [hhistory]; exact h.newest, by rw [hhistory]; exact h.middle,
    by rw [hhistory]; exact h.oldest⟩

theorem BandInv.completeCycle {s : State} (h : BandInv s) (cyc : CycleInputs) : BandInv (s.completeCycle cyc) := by
  have hband : (computeCycle s.tables s.split cyc).band ≤ 3 := selectBand_le cyc h.band
  refine ⟨?_, ?_, ?_, ?_⟩ <;> rw [State.completeCycle_split]
  · exact hband
  · exact hband
  · exact h.newest
  · exact h.middle

/-- An acceptance leaves the split state, or issues the start of a DEMAND cycle (R45). -/
theorem State.handAcceptance_split (s : State) (r : Role) :
    (s.handAcceptance r).split = if r = .demand then { s.split with waiting := some .demand } else s.split := by
  cases r
  case demand => rfl
  case battery => simp [State.handAcceptance, State.handBattery]
  case inverter => simp [State.handAcceptance, State.handInverter]
  case engine => simp [State.handAcceptance, State.handEngine]
  case clutch => simp [State.handAcceptance, State.handClutch]
  case brake => simp [State.handAcceptance, State.handBrake]

theorem State.Move.bandInv {s t : State} (h : s.Move t) (hs : BandInv s) : BandInv t := by
  cases h with
  | powerOn | pin => exact ⟨Nat.zero_le _, Nat.zero_le _, Nat.zero_le _, Nat.zero_le _⟩
  | accepted r f =>
    exact hs.congr (by rw [State.handAcceptance_split]; split <;> simp)
      (by rw [State.handAcceptance_split]; split <;> simp)
  | completed cyc => exact hs.completeCycle cyc
  | wrote _ name i field v _ _ hw =>
    exact hs.congr (by rw [State.writeField_frame hw]) (by rw [State.writeField_frame hw])
  | _ => exact hs.congr (by simp) (by simp)

/-- Settles O50: each of the four standing properties is kept by every move, so by every step. -/
theorem stepKeepsPortsTablesAndHolds : Obligations.StepKeepsPortsTablesAndHolds :=
  ⟨fun _ _ hs => step_keeps (fun _ _ h => h.congr rfl (.of_eq rfl) fun _ => rfl) (fun _ _ => State.Move.portsInv) hs,
    fun _ _ hs => step_keeps (fun _ _ h => h.congr rfl) (fun _ _ => State.Move.forwardInv) hs,
    fun _ _ hs => step_keeps (fun _ _ h => h.congr rfl) (fun _ _ => State.Move.holdsInv) hs,
    fun _ _ hs => step_keeps (fun _ _ h => h.congr rfl rfl) (fun _ _ => State.Move.bandInv) hs⟩

end Sys2Proof.Machine
end

section
/-! PROOFS. Fault sources stay in step with their conditions: the lapse sources with the streams (R129), DOWNLINK_LOSS
with Port D (R133), CRANK_FAIL with no standing condition (R132). -/

namespace Sys2Proof.Machine

/-! ### One source (R135) -/

/-- A source is ACTIVE exactly while its condition is present, and only CLUTCH_FAULT has a timeout part (R128). -/
structure FaultSource.Fits (i : Fin 12) (x : FaultSource) : Prop where
  active : x.state = .active ↔ x.present = true
  timeout : i ≠ srcClutchFault → x.timeout = false

theorem FaultsInv.fits {s : State} (h : FaultsInv s) (i : Fin 12) : s.faults.sources[i].Fits i :=
  ⟨h.active i, h.timeout i⟩

theorem FaultSource.Fits.raised {i : Fin 12} {x : FaultSource} (h : x.Fits i) : x.raised.Fits i :=
  ⟨by simp [FaultSource.raised, FaultSource.present], h.timeout⟩

theorem FaultSource.raisedTimeout_fits (x : FaultSource) : x.raisedTimeout.Fits srcClutchFault :=
  ⟨by simp [FaultSource.raisedTimeout, FaultSource.present], fun h => absurd rfl h⟩

theorem FaultSource.Fits.removed {i : Fin 12} {x : FaultSource} (h : x.Fits i) (m : ClearMode) :
    (x.removed m).Fits i := by
  obtain ⟨-, htimeout, habsent, hactive⟩ := x.removed_spec m
  refine ⟨⟨fun hst => ?_, fun hp => by simp [habsent] at hp⟩, fun _ => htimeout⟩
  obtain ⟨hx, hp⟩ := hactive hst
  rw [h.active.1 hx] at hp
  cases hp

theorem FaultSource.Fits.acked {i : Fin 12} {x : FaultSource} (h : x.Fits i) (hx : x.state ≠ .active) :
    x.acked.Fits i := by
  have habsent : ¬x.present = true := fun hp => hx (h.active.2 hp)
  have he : x.acked = { x with state := .clear } := by
    rcases x with ⟨_ | _ | _, _, _⟩
    · rfl
    · exact absurd rfl hx
    · rfl
  rw [he]
  exact ⟨iff_of_false nofun habsent, h.timeout⟩

theorem lapseSource_inj (r r' : Role) : lapseSource r = lapseSource r' ↔ r = r' := by
  cases r <;> cases r' <;> decide

theorem lapseSource_lt (r : Role) : (lapseSource r).val < 6 := by cases r <;> decide

/-! ### The standing property under a change of one source -/

/-- The Fault Unit stands, and so do the lapse conditions and BUS_OFF of Port D. -/
theorem FaultsInv.congr {s t : State} (h : FaultsInv s) (hfaults : t.faults = s.faults)
    (hlapse : ∀ r, (t.intake.streams.get r).lapse = (s.intake.streams.get r).lapse)
    (hdown : t.ports.port.d.error = .busOff ↔ s.ports.port.d.error = .busOff) : FaultsInv t where
  active := hfaults ▸ h.active
  timeout := hfaults ▸ h.timeout
  crankFail := hfaults ▸ h.crankFail
  lapse r := by rw [hfaults, hlapse]; exact h.lapse r
  downlink := by rw [hfaults, hdown]; exact h.downlink

/-- One source is replaced; what its condition follows changes with it, and nothing another source follows. -/
theorem FaultsInv.set {s t : State} (h : FaultsInv s) (i : Fin 12) {x : FaultSource} (hx : x.Fits i)
    (hfaults : t.faults = s.faults.set i x) (hcrank : i = srcCrankFail → x.cond = false)
    (hlapse : ∀ r, (t.intake.streams.get r).lapse =
      if i = lapseSource r then x.cond else (s.intake.streams.get r).lapse)
    (hdown : t.ports.port.d.error = .busOff ↔
      if i = srcDownlinkLoss then x.cond = true else s.ports.port.d.error = .busOff) : FaultsInv t := by
  have hfits (j : Fin 12) : t.faults.sources[j].Fits j := by
    rw [hfaults, FaultUnit.sources_set]
    split
    · next hj => exact hj ▸ hx
    · exact h.fits j
  refine ⟨fun j => (hfits j).active, fun j => (hfits j).timeout, ?_, fun r => ?_, ?_⟩
  · rw [hfaults, FaultUnit.sources_set]
    split
    · next hj => exact hcrank hj.symm
    · exact h.crankFail
  · rw [hlapse, hfaults, FaultUnit.sources_set]
    simp only [eq_comm (a := lapseSource r)]
    split
    · rfl
    · exact h.lapse r
  · rw [hdown, hfaults, FaultUnit.sources_set]
    simp only [eq_comm (a := srcDownlinkLoss)]
    split
    · rfl
    · exact h.downlink

/-- A source that follows no stream, no port and is not CRANK_FAIL is replaced. -/
theorem FaultsInv.setOther {s t : State} (h : FaultsInv s) (i : Fin 12) {x : FaultSource} (hx : x.Fits i)
    (hi : 6 ≤ i.val ∧ i.val ≤ 9) (hfaults : t.faults = s.faults.set i x) (hintake : t.intake = s.intake)
    (hports : t.ports = s.ports) : FaultsInv t := by
  obtain ⟨hlo, hhi⟩ := hi
  refine h.set i hx hfaults (fun hc => ?_) (fun r => ?_) ?_
  · rw [hc] at hhi; exact absurd hhi (by decide)
  · have hr := lapseSource_lt r
    rw [hintake, if_neg fun hc => by omega]
  · rw [hports, if_neg fun hc => by rw [hc] at hhi; exact absurd hhi (by decide)]

theorem FaultsInv.handFlag {s : State} (h : FaultsInv s) (i : Fin 12) (b : Bool) (hi : 6 ≤ i.val ∧ i.val ≤ 9) :
    FaultsInv (s.handFlag i b) := by
  rcases s.handFlag_cases i b with ⟨-, e⟩ | ⟨-, e⟩ <;> rw [e]
  · exact h.setOther i (h.fits i).raised hi rfl rfl rfl
  · exact h.setOther i ((h.fits i).removed _) hi rfl rfl rfl

/-- What an acceptance makes of the Fault Unit: the flag of its frame, if it has one (R45, R130). -/
theorem State.handAcceptance_faults (s : State) (r : Role) : (s.handAcceptance r).faults =
    (match r with
    | .battery => s.handFlag srcContactorOpen (!s.intake.battery.contactorClosed)
    | .inverter => s.handFlag srcInverterFault s.intake.inverter.fault
    | .engine => s.handFlag srcEngineFault s.intake.engine.fault
    | .clutch => s.handFlag srcClutchFault s.intake.clutch.fault
    | .demand | .brake => s).faults := by
  cases r
  case demand | brake => rfl
  case battery => simp [State.handAcceptance, State.handBattery]
  case inverter => simp [State.handAcceptance, State.handInverter]
  case engine => simp [State.handAcceptance, State.handEngine]
  case clutch => simp [State.handAcceptance, State.handClutch]

theorem FaultsInv.handAcceptance {s : State} (h : FaultsInv s) (r : Role) : FaultsInv (s.handAcceptance r) := by
  have flagged {i : Fin 12} (b : Bool) (hi : 6 ≤ i.val ∧ i.val ≤ 9)
      (he : (s.handAcceptance r).faults = (s.handFlag i b).faults) : FaultsInv (s.handAcceptance r) :=
    (h.handFlag i b hi).congr he (fun _ => by simp) (by simp)
  have hfaults := s.handAcceptance_faults r
  cases r with
  | demand | brake => exact h.congr hfaults (fun _ => by simp) (by simp)
  | battery => exact flagged (i := srcContactorOpen) _ (by decide) hfaults
  | inverter => exact flagged (i := srcInverterFault) _ (by decide) hfaults
  | engine => exact flagged (i := srcEngineFault) _ (by decide) hfaults
  | clutch => exact flagged (i := srcClutchFault) _ (by decide) hfaults

/-- A stream goes to LAPSED with its source raised (R40, R129). -/
theorem FaultsInv.lapsed {s t : State} (h : FaultsInv s) (r : Role) {m : StreamMeta} (hm : m.lapse = true)
    (hfaults : t.faults = (s.raiseFault (lapseSource r)).faults)
    (hstreams : t.intake.streams = s.intake.streams.set r m) (hports : t.ports = s.ports) : FaultsInv t := by
  refine h.set (lapseSource r) (h.fits _).raised hfaults (fun hc => ?_) (fun r' => ?_) ?_
  · have hr := lapseSource_lt r
    rw [hc] at hr; exact absurd hr (by decide)
  · rw [hstreams, ByRole.get_set]
    simp only [lapseSource_inj, eq_comm (a := r')]
    split
    · exact hm
    · rfl
  · have hr := lapseSource_lt r
    rw [hports, if_neg fun hc => by rw [hc] at hr; exact absurd hr (by decide)]

/-- A stream is stored FRESH, its source removed when it was LAPSED (R38, R129). -/
theorem FaultsInv.storeFrame {s : State} (h : FaultsInv s) (hs : StreamsInv s) (r : Role) (d : List Byte) :
    FaultsInv (s.storeFrame r d) := by
  have hlapse (r' : Role) : ((s.storeFrame r d).intake.streams.get r').lapse =
      if lapseSource r = lapseSource r' then false else (s.intake.streams.get r').lapse := by
    rw [State.storeFrame_intake, ByRole.get_set]
    simp only [lapseSource_inj, eq_comm (a := r')]
    split <;> rfl
  by_cases hst : (s.intake.streams.get r).state = .lapsed
  · have hr := lapseSource_lt r
    refine h.set (lapseSource r) ((h.fits _).removed (s.tables.faultEntry (lapseSource r)).clearMode)
      (by simp [State.storeFrame, hst, State.removeFault]) (fun hc => ?_) (fun r' => ?_) ?_
    · rw [hc] at hr; exact absurd hr (by decide)
    · rw [hlapse, (FaultSource.removed_spec _ _).1]
    · rw [if_neg fun hc => by rw [hc] at hr; exact absurd hr (by decide)]
      simp
  · refine h.congr (by simp [State.storeFrame, hst]) (fun r' => ?_) (by simp)
    rw [hlapse]
    split
    · next hr =>
      have hclear := (hs.streams r).lapse.not.2 hst
      rw [← (lapseSource_inj r r').1 hr]
      exact (Bool.eq_false_iff.2 hclear).symm
    · rfl

/-! ### Ports and DOWNLINK_LOSS (R133, R179) -/

/-- A port is replaced by one that is in BUS_OFF exactly where it was. -/
theorem FaultsInv.setPort {s t : State} (h : FaultsInv s) (p : Port) {x : PortState} (hfaults : t.faults = s.faults)
    (hintake : t.intake = s.intake) (hport : t.ports.port = s.ports.port.set p x)
    (hx : x.error = .busOff ↔ (s.ports.port.get p).error = .busOff) : FaultsInv t := by
  refine h.congr hfaults (fun _ => by rw [hintake]) ?_
  rw [hport]
  cases p with
  | portU => rfl
  | portD => exact hx

theorem FaultsInv.errorAttempt {s : State} (h : FaultsInv s) (hp : PortsInv s) {p : Port} {a : Attempt}
    (k : TxErrorKind) (ha : (s.ports.port.get p).attempt = some a) : FaultsInv (s.errorAttempt p a k) := by
  have honline : (s.ports.port.get p).error ≠ .busOff := fun he => by
    have hnone := ((hp.consistent p).busOff he).2
    rw [ha] at hnone; cases hnone
  unfold State.errorAttempt
  simp only
  generalize hxe : ((s.failAttempt p a).ports.port.get p).txFailed k = x
  have hset : ((s.failAttempt p a).setPort p x).ports.port = s.ports.port.set p x := by
    simp [State.setPort, State.failAttempt, ByPort.set_set]
  by_cases hbus : x.error = .busOff
  · rw [hset, ByPort.get_set, if_pos rfl, if_pos hbus]
    cases p with
    | portU =>
      exact h.congr (by simp [State.enterBusOff]) (fun _ => by simp)
        (by simp [State.enterBusOff_port, hset, ByPort.set])
    | portD =>
      refine h.set srcDownlinkLoss (h.fits _).raised (by simp [State.enterBusOff, State.raiseFault]) nofun
        (fun r => ?_) ?_
      · have hr := lapseSource_lt r
        rw [if_neg fun hc => by rw [← hc] at hr; exact absurd hr (by decide)]
        simp
      · rw [if_pos rfl, State.enterBusOff_port, hset]
        exact iff_of_true hbus rfl
  · rw [hset, ByPort.get_set, if_pos rfl, if_neg hbus]
    exact h.setPort p (by simp) (by simp) hset (iff_of_false hbus honline)

theorem FaultsInv.recessiveRun {s : State} (h : FaultsInv s) (p : Port) : FaultsInv (s.recessiveRun p) := by
  rcases s.recessiveRun_cases p with ⟨-, e⟩ | ⟨hbus, -, e⟩ | ⟨-, -, e⟩ <;> rw [e]
  · exact h
  · exact h.setPort p rfl rfl rfl (iff_of_eq rfl)
  · cases p with
    | portU => exact h.congr rfl (fun _ => rfl) (iff_of_eq rfl)
    | portD =>
      refine h.set srcDownlinkLoss ((h.fits _).removed (s.tables.faultEntry srcDownlinkLoss).clearMode)
        (by simp [State.leaveBusOff, State.removeFault]) nofun (fun r => ?_) ?_
      · have hr := lapseSource_lt r
        rw [if_neg fun hc => by rw [← hc] at hr; exact absurd hr (by decide)]
        simp
      · rw [if_pos rfl, (FaultSource.removed_spec _ _).1]
        exact iff_of_false nofun nofun

/-! ### CRANK_FAIL (R109, R132) -/

/-- A raise and a removal in the one event leave no condition. -/
theorem FaultsInv.crankFailed {s : State} (h : FaultsInv s) :
    FaultsInv ((s.raiseFault srcCrankFail).removeFault srcCrankFail) := by
  have hraised := ((h.fits srcCrankFail).raised).removed (s.tables.faultEntry srcCrankFail).clearMode
  refine h.set srcCrankFail hraised ?_ (fun _ => (FaultSource.removed_spec _ _).1) (fun r => ?_) ?_
  · simp [State.removeFault, State.raiseFault, FaultUnit.set]
  · have hr := lapseSource_lt r
    rw [if_neg fun hc => by rw [← hc] at hr; exact absurd hr (by decide)]
    simp
  · rw [if_neg (by decide)]
    simp

theorem FaultsInv.crankExpiry {s : State} (h : FaultsInv s) : FaultsInv s.crankExpiry := by
  unfold State.crankExpiry
  simp only
  have hset (r : RegimeState) : FaultsInv (s.setRegime r) := h.congr rfl (fun _ => rfl) (iff_of_eq rfl)
  split
  · split
    · exact (hset _).crankFailed
    · exact hset _
  · split
    · exact (hset _).crankFailed
    · exact hset _
  · exact hset _
  · exact hset _

/-- A deadline expiry with a hold parameter above 0 hands no event to the Fault Unit (R39). -/
theorem State.deadlineExpired_faults (s : State) (r : Role) : (s.deadlineExpired r).faults =
    if s.tables.wp.holdOf r ≤ 0 then (s.raiseFault (lapseSource r)).faults else s.faults := by
  unfold State.deadlineExpired
  simp only
  split_ifs <;> rfl

theorem FaultsInv.deadlineExpired {s : State} (h : FaultsInv s) (r : Role) : FaultsInv (s.deadlineExpired r) := by
  have hfaults := s.deadlineExpired_faults r
  have hintake := s.deadlineExpired_intake r
  by_cases hhold : s.tables.wp.holdOf r ≤ 0
  · rw [if_pos hhold] at hfaults hintake
    exact h.lapsed r rfl hfaults (by rw [hintake]) (by simp)
  · rw [if_neg hhold] at hfaults hintake
    refine h.congr hfaults (fun r' => ?_) (by simp)
    rw [hintake, ByRole.get_set]
    split
    · next hr => rw [hr]
    · rfl

/-- An acknowledged source that is not ACTIVE keeps its condition, which is absent (R135). -/
theorem FaultsInv.acked {s : State} (h : FaultsInv s) (i : Fin 12) (hi : s.faults.sources[i].state ≠ .active) :
    FaultsInv (s.setFaults (s.faults.set i s.faults.sources[i].acked)) := by
  have hcond : s.faults.sources[i].acked.cond = s.faults.sources[i].cond := by
    unfold FaultSource.acked
    split <;> rfl
  refine h.set i ((h.fits i).acked hi) rfl (fun hc => ?_) (fun r => ?_) ?_
  · rw [hcond, hc]; exact h.crankFail
  · split
    · next hr => rw [hcond, hr]; exact (h.lapse r).symm
    · rfl
  · split
    · next hd => rw [hcond, hd]; exact h.downlink.symm
    · rfl

theorem faultsInv_resetBlocks (s : State) (t : TableStore) (k : ResetKind) : FaultsInv (s.resetBlocks t k) := by
  have hsource (i : Fin 12) : (s.resetBlocks t k).faults.sources[i] = ⟨.clear, false, false⟩ := by
    simp [resetFaults]
  refine ⟨fun i => ?_, fun i _ => ?_, ?_, fun r => ?_, ?_⟩ <;> rw [hsource]
  · exact iff_of_false nofun nofun
  · cases r <;> rfl
  · exact iff_of_false nofun nofun

@[simp] theorem State.fillSlots_port (s : State) (cyc : CycleInputs) (x : CycleResult) :
    (s.fillSlots cyc x).ports.port = s.ports.port := by
  unfold State.fillSlots
  split <;> rfl

theorem State.Move.faultsInv {s t : State} (h : s.Move t) (hs : FaultsInv s) (hp : PortsInv s)
    (hstreams : StreamsInv s) : FaultsInv t := by
  cases h with
  | powerOn | pin => exact faultsInv_resetBlocks _ _ _
  | counted p _ honline =>
    obtain ⟨-, hbelow⟩ := (hp.consistent p).recounted honline (n := if 127 < (s.ports.port.get p).rxCount then 120
      else (s.ports.port.get p).rxCount - 1) (by have := (hp.consistent p).rx; split <;> omega)
    exact hs.setPort p rfl rfl rfl (iff_of_false hbelow honline)
  | receiveError p _ honline =>
    obtain ⟨-, hbelow⟩ := (hp.consistent p).recounted honline (n := min ((s.ports.port.get p).rxCount + 1) 255)
      (by omega)
    exact hs.setPort p rfl rfl rfl (iff_of_false hbelow honline)
  | discarded r f why =>
    refine hs.congr rfl (fun r' => ?_) (iff_of_eq rfl)
    simp only [State.discardFrame, State.setStream, State.setIntake_intake, ByRole.get_set]
    split
    · next hr => rw [hr]
    · rfl
  | accepted r f => exact (hs.storeFrame hstreams r f.data).handAcceptance r
  | deadline r => exact hs.deadlineExpired r
  | hold r => exact hs.lapsed r rfl rfl rfl rfl
  | crankTimer => exact hs.crankExpiry
  | clutchTimeout => exact hs.setOther srcClutchFault (FaultSource.raisedTimeout_fits _) (by decide) rfl rfl rfl
  | transmitStart p a => exact hs.setPort p rfl rfl rfl (iff_of_eq rfl)
  | transmitted p a _ ha =>
    have hc := hp.consistent p
    have honline : (s.ports.port.get p).error ≠ .busOff := fun he => by
      have hnone := (hc.busOff he).2
      rw [ha] at hnone; cases hnone
    have htx := hc.txCount_le honline
    refine hs.setPort p (by simp) (by simp) (by simp; rfl) (iff_of_false ?_ honline)
    exact PortState.settled_error_ne_busOff honline (by simp only; omega)
  | attemptFailed p a => exact hs.setPort p rfl rfl rfl (iff_of_eq rfl)
  | errored p a k _ ha => exact hs.errorAttempt hp k ha
  | recessive p => exact hs.recessiveRun p
  | replied q c => exact hs.congr (by simp) (fun _ => by simp) (by simp [State.place])
  | faultAcked i _ hi => exact hs.acked i hi
  | completed cyc =>
    exact hs.congr (by simp) (fun _ => by simp) (by rw [State.completeCycle_ports, State.fillSlots_port])
  | wrote _ name i field v _ _ hw =>
    rw [State.writeField_frame hw]
    exact hs.congr rfl (fun _ => rfl) (iff_of_eq rfl)
  | _ => exact hs.congr (by simp) (fun _ => by simp) (by simp)

/-- Settles O18: the streams keep in step by themselves, the sources with the streams and the ports beside them. -/
theorem stepKeepsStreamsAndFaultsInStep : Obligations.StepKeepsStreamsAndFaultsInStep := by
  refine ⟨fun _ _ hs => step_keeps (fun _ _ h => ⟨h.streams, h.fillIn⟩) (fun _ _ => State.Move.streamsInv) hs,
    fun s t hf hp hs h => ?_⟩
  exact (step_keeps (I := fun s => FaultsInv s ∧ PortsInv s ∧ StreamsInv s)
    (fun _ _ ⟨hf, hp, hs⟩ => ⟨hf.congr rfl (fun _ => rfl) (iff_of_eq rfl), hp.congr rfl (.of_eq rfl) fun _ => rfl,
      hs.streams, hs.fillIn⟩)
    (fun _ _ hm ⟨hf, hp, hs⟩ => ⟨hm.faultsInv hf hp hs, hm.portsInv hp, hm.streamsInv hs⟩) ⟨hf, hp, hs⟩ h).1

end Sys2Proof.Machine
end

section
/-! PROOFS. The tests of the verify walk as conditions on numbers, and that the values of a walk that passed its 79
latched entries are exactly the valid sets of R3 to R5. -/

namespace Sys2Proof.Machine

/-! ### The walk order (R2, R12) -/

theorem tableAt_base_add (tbl : BankTable) (i : Nat) (hi : i < tbl.size) : tableAt (tbl.base + i) = (tbl, i) := by
  unfold tableAt
  cases tbl <;> simp only [BankTable.size, BankTable.base] at hi ⊢ <;>
    simp (disch := omega) only [if_pos, if_neg, Nat.add_sub_cancel_left, Nat.zero_add]

theorem exists_table_of_lt {p : Nat} (hp : p < 559) :
    ∃ (tbl : BankTable) (i : Nat), i < tbl.size ∧ p = tbl.base + i := by
  have found (tbl : BankTable) (hlo : tbl.base ≤ p) (hhi : p < tbl.base + tbl.size) :
      ∃ (tbl : BankTable) (i : Nat), i < tbl.size ∧ p = tbl.base + i := ⟨tbl, p - tbl.base, by omega, by omega⟩
  rcases Nat.lt_or_ge p 54 with h | h
  · exact found .param (Nat.zero_le _) (by simpa [BankTable.base, BankTable.size] using h)
  rcases Nat.lt_or_ge p 66 with h' | h'
  · exact found .speedBp h h'
  rcases Nat.lt_or_ge p 76 with h | h
  · exact found .demandBp h' h
  rcases Nat.lt_or_ge p 79 with h' | h'
  · exact found .thresh h h'
  rcases Nat.lt_or_ge p 199 with h | h
  · exact found .map0 h' h
  rcases Nat.lt_or_ge p 319 with h' | h'
  · exact found .map1 h h'
  rcases Nat.lt_or_ge p 439 with h | h
  · exact found .map2 h' h
  · exact found .map3 h hp

/-! ### The tests of R12 at a position -/

/-- The least value of the first stored field at a position of the walk order (R3 to R6). -/
def walkLo (p : Nat) : Int :=
  if p < 54 then (paramRows.getD p ⟨0, 0, 0⟩).lo else if 76 ≤ p ∧ p < 79 then 1 else 0

/-- The greatest value of the first stored field at a position of the walk order (R3 to R6). -/
def walkHi (p : Nat) : Int :=
  if p < 54 then (paramRows.getD p ⟨0, 0, 0⟩).hi else if p < 66 then 7000
  else if p < 76 then 600 else if p < 79 then 999 else 1000

theorem fieldRange_tableAt {p : Nat} (hp : p < 559) :
    fieldRange (tableAt p).1 (tableAt p).2 1 = (walkLo p, walkHi p) := by
  obtain ⟨tbl, i, hi, rfl⟩ := exists_table_of_lt hp
  rw [tableAt_base_add tbl i hi]
  unfold walkLo walkHi
  cases tbl <;> simp only [BankTable.size] at hi <;> simp [fieldRange, BankTable.base, hi] <;> omega

/-- Test 3 of R12 at a position: a used breakpoint lies above the one before it. -/
def Ascends (vals : List Int) (p : Nat) (v : Int) : Prop :=
  (54 < p → p < 66 → (p : Int) - 54 ≤ seenAt vals 13 - 1 → seenAt vals (p - 1) < v) ∧
  (66 < p → p < 76 → (p : Int) - 66 ≤ seenAt vals 14 - 1 → seenAt vals (p - 1) < v)

/-- Test 4 of R12 at a position: the cross-field conditions whose highest-indexed member stands there. -/
def Crosses (vals : List Int) (p : Nat) (v : Int) : Prop :=
  (p = 16 → v < seenAt vals 15) ∧ (p = 22 → v < seenAt vals 21) ∧
  (48 ≤ p → p ≤ 52 → ∀ q, 47 ≤ q → q < p → v ≠ seenAt vals q) ∧
  (p = 76 → 0 ≤ v - seenAt vals 12) ∧ (p = 77 → seenAt vals 76 < v) ∧
  (p = 78 → seenAt vals 77 < v ∧ v + seenAt vals 12 ≤ 1000)

/-- Test 2 of R12 at a position. -/
def FieldsInRange (p : Nat) (f : BankFields) : Prop :=
  walkLo p ≤ f.f1 ∧ f.f1 ≤ walkHi p ∧ (79 ≤ p → 0 ≤ f.f2 ∧ f.f2 ≤ 150)

theorem rangeOk_iff {p : Nat} (hp : p < 559) (f : BankFields) :
    rangeOk (tableAt p).1 (tableAt p).2 f = true ↔ FieldsInRange p f := by
  have second : (tableAt p).1.fields < 2 ∨ (fieldRange (tableAt p).1 (tableAt p).2 2).1 ≤ f.f2 ∧
      f.f2 ≤ (fieldRange (tableAt p).1 (tableAt p).2 2).2 ↔ (79 ≤ p → 0 ≤ f.f2 ∧ f.f2 ≤ 150) := by
    obtain ⟨tbl, i, hi, rfl⟩ := exists_table_of_lt hp
    rw [tableAt_base_add tbl i hi]
    cases tbl <;> simp only [BankTable.size] at hi <;> simp [BankTable.fields, BankTable.base, fieldRange] <;> omega
  unfold rangeOk FieldsInRange
  simp only [fieldRange_tableAt hp, Bool.and_eq_true, Bool.or_eq_true, decide_eq_true_eq, second, and_assoc]

theorem orderOk_iff {p : Nat} (hp : p < 559) (v : Int) (vals : List Int) :
    orderOk (tableAt p).1 (tableAt p).2 v vals = true ↔ Ascends vals p v := by
  obtain ⟨tbl, i, hi, rfl⟩ := exists_table_of_lt hp
  rw [tableAt_base_add tbl i hi]
  unfold Ascends
  cases tbl <;> simp only [BankTable.size] at hi <;> simp [orderOk, BankTable.base] <;> omega

theorem crossOk_iff {p : Nat} (hp : p < 559) (v : Int) (vals : List Int) :
    crossOk (tableAt p).1 (tableAt p).2 v vals = true ↔ Crosses vals p v := by
  obtain ⟨tbl, i, hi, rfl⟩ := exists_table_of_lt hp
  rw [tableAt_base_add tbl i hi]
  unfold Crosses
  cases tbl <;> simp only [BankTable.size] at hi <;> simp [crossOk, BankTable.base]
  case param =>
    have reindexed : (∀ x < i - 47, ¬v = seenAt vals (47 + x)) ↔ ∀ q, 47 ≤ q → q < i → ¬v = seenAt vals q :=
      ⟨fun h q hq hqi => by simpa [Nat.add_sub_cancel' hq] using h (q - 47) (by omega),
        fun h x hx => h (47 + x) (by omega) (by omega)⟩
    rw [reindexed]
    grind
  case thresh => grind
  all_goals omega

/-- The reason the walk gives at an entry: the first test of R12 that fails. -/
theorem walkReason_cases {x : Bank} {p : Nat} (hp : p < 559) (seen : List Int) :
    (x.entryAt p = .failing ∧ walkReason x p seen = some .check) ∨
    (∃ f, x.entryAt p = .passing f ∧
      ((¬FieldsInRange p f ∧ walkReason x p seen = some .range) ∨
        (FieldsInRange p f ∧ ¬Ascends seen p f.f1 ∧ walkReason x p seen = some .order) ∨
        (FieldsInRange p f ∧ Ascends seen p f.f1 ∧ ¬Crosses seen p f.f1 ∧ walkReason x p seen = some .cross) ∨
        (FieldsInRange p f ∧ Ascends seen p f.f1 ∧ Crosses seen p f.f1 ∧ walkReason x p seen = none))) := by
  unfold walkReason
  cases x.entryAt p with
  | failing => exact .inl ⟨rfl, rfl⟩
  | passing f =>
    have hfail {b : Bool} {P : Prop} (h : b = true ↔ P) (hn : ¬P) : b = false := Bool.eq_false_iff.2 (hn ∘ h.1)
    refine .inr ⟨f, rfl, ?_⟩
    by_cases hrange : FieldsInRange p f
    · have hr := (rangeOk_iff hp f).2 hrange
      by_cases horder : Ascends seen p f.f1
      · have ho := (orderOk_iff hp f.f1 seen).2 horder
        by_cases hcross : Crosses seen p f.f1
        · exact .inr (.inr (.inr ⟨hrange, horder, hcross, by simp [hr, ho, (crossOk_iff hp f.f1 seen).2 hcross]⟩))
        · exact .inr (.inr (.inl ⟨hrange, horder, hcross, by simp [hr, ho, hfail (crossOk_iff hp f.f1 seen) hcross]⟩))
      · exact .inr (.inl ⟨hrange, horder, by simp [hr, hfail (orderOk_iff hp f.f1 seen) horder]⟩)
    · exact .inl ⟨hrange, by simp [hfail (rangeOk_iff hp f) hrange]⟩

/-- An entry passes exactly when it passes its check and the three tests on its values. -/
theorem walkReason_eq_none_iff {x : Bank} {p : Nat} (hp : p < 559) (seen : List Int) :
    walkReason x p seen = none ↔
      ∃ f, x.entryAt p = .passing f ∧ FieldsInRange p f ∧ Ascends seen p f.f1 ∧ Crosses seen p f.f1 := by
  rcases walkReason_cases (x := x) hp seen with ⟨hx, e⟩ | ⟨f, hx, h⟩
  · simp [hx, e]
  · rcases h with ⟨h, e⟩ | ⟨-, h, e⟩ | ⟨-, -, h, e⟩ | ⟨hrange, horder, hcross, e⟩
    · simp [hx, e, h]
    · simp [hx, e, h]
    · simp [hx, e, h]
    · simp [hx, e, hrange, horder, hcross]

/-! ### Values that passed (R3 to R5) -/

/-- The tests of R12 on the first field of a latched entry. -/
def ValuePasses (vals : List Int) (p : Nat) : Prop :=
  walkLo p ≤ seenAt vals p ∧ seenAt vals p ≤ walkHi p ∧ Ascends vals p (seenAt vals p) ∧ Crosses vals p (seenAt vals p)

theorem prefixOk_iff (vals : List Int) (n : Nat) : PrefixOk vals n ↔ ∀ p, p < n → p < 79 → ValuePasses vals p := by
  unfold PrefixOk ValuePasses
  refine forall_congr' fun p => imp_congr_right fun _ => imp_congr_right fun h79 => ?_
  have hp : p < 559 := by omega
  simp only [fieldRange_tableAt hp, orderOk_iff hp, crossOk_iff hp]

/-- The tests at a position read the values before it only. -/
theorem tests_congr {a b : List Int} {p : Nat} (hp : p < 79) (h : ∀ q, q < p → seenAt a q = seenAt b q) (v : Int) :
    (Ascends a p v ↔ Ascends b p v) ∧ (Crosses a p v ↔ Crosses b p v) := by
  constructor
  · unfold Ascends
    by_cases hpos : 54 < p
    · rw [h 13 (by omega), h 14 (by omega), h (p - 1) (by omega)]
    · exact ⟨fun _ => ⟨by omega, by omega⟩, fun _ => ⟨by omega, by omega⟩⟩
  · unfold Crosses
    refine and_congr (imp_congr_right fun hq => by rw [h 15 (by omega)])
      (and_congr (imp_congr_right fun hq => by rw [h 21 (by omega)])
      (and_congr (imp_congr_right fun _ => imp_congr_right fun _ => forall_congr' fun q => imp_congr_right fun _ =>
        imp_congr_right fun hq => by rw [h q hq])
      (and_congr (imp_congr_right fun hq => by rw [h 12 (by omega)])
      (and_congr (imp_congr_right fun hq => by rw [h 76 (by omega)])
        (imp_congr_right fun hq => by rw [h 77 (by omega), h 12 (by omega)])))))

theorem ValuePasses.congr {a b : List Int} {p : Nat} (hp : p < 79) (h : ∀ q, q ≤ p → seenAt a q = seenAt b q)
    (ha : ValuePasses a p) : ValuePasses b p := by
  obtain ⟨hlo, hhi, hasc, hcross⟩ := ha
  obtain ⟨ascends, crosses⟩ := tests_congr hp (fun q hq => h q hq.le) (seenAt b p)
  rw [h p le_rfl] at hlo hhi hasc hcross
  exact ⟨hlo, hhi, ascends.1 hasc, crosses.1 hcross⟩

/-- The values of a list that passed its 79 tests are valid, and the values of a valid list pass them. -/
theorem prefixOk_79_iff (vals : List Int) : PrefixOk vals 79 ↔ ValidValues (seenAt vals) := by
  rw [prefixOk_iff]
  constructor
  · intro h
    have at' (p : Nat) (hp : p < 79) := h p hp hp
    have bound (p : Nat) (hp : p < 79) : walkLo p ≤ seenAt vals p ∧ seenAt vals p ≤ walkHi p :=
      ⟨(at' p hp).1, (at' p hp).2.1⟩
    have ascends (p : Nat) (hp : p < 79) := (at' p hp).2.2.1
    have crosses (p : Nat) (hp : p < 79) := (at' p hp).2.2.2
    have hspeeds : seenAt vals 13 ≤ 12 := (bound 13 (by decide)).2
    have hdemands : seenAt vals 14 ≤ 10 := (bound 14 (by decide)).2
    constructor
    case param => exact fun i hi => by simpa [walkLo, walkHi, hi] using bound i (by omega)
    case speed =>
      intro i hi
      simpa (disch := omega) only [walkLo, walkHi, if_pos, if_neg] using bound (54 + i) (by omega)
    case demand =>
      intro i hi
      simpa (disch := omega) only [walkLo, walkHi, if_pos, if_neg] using bound (66 + i) (by omega)
    case thresh =>
      intro i hi
      simpa (disch := omega) only [walkLo, walkHi, if_pos, if_neg] using bound (76 + i) (by omega)
    case speedAscent =>
      intro i hi
      exact (ascends (54 + i + 1) (by omega)).1 (by omega) (by omega) (by push_cast; omega)
    case demandAscent =>
      intro i hi
      exact (ascends (66 + i + 1) (by omega)).2 (by omega) (by omega) (by push_cast; omega)
    case offBelowOn => exact (crosses 16 (by decide)).1 rfl
    case unlockBelowLock => exact (crosses 22 (by decide)).2.1 rfl
    case idsDistinct =>
      exact fun i j hi hij hj => ((crosses j (by omega)).2.2.1 (by omega) hj i hi hij).symm
    case bandLow => exact (crosses 76 (by decide)).2.2.2.1 rfl
    case thresh12 => exact (crosses 77 (by decide)).2.2.2.2.1 rfl
    case thresh23 => exact ((crosses 78 (by decide)).2.2.2.2.2 rfl).1
    case bandHigh => exact ((crosses 78 (by decide)).2.2.2.2.2 rfl).2
  · intro h p hp _
    have bound : walkLo p ≤ seenAt vals p ∧ seenAt vals p ≤ walkHi p := by
      rcases Nat.lt_or_ge p 54 with h1 | h1
      · simpa [walkLo, walkHi, h1] using h.param p h1
      rcases Nat.lt_or_ge p 66 with h2 | h2
      · have := h.speed (p - 54) (by omega)
        rw [Nat.add_sub_cancel' h1] at this
        simpa (disch := omega) only [walkLo, walkHi, if_pos, if_neg] using this
      rcases Nat.lt_or_ge p 76 with h3 | h3
      · have := h.demand (p - 66) (by omega)
        rw [Nat.add_sub_cancel' h2] at this
        simpa (disch := omega) only [walkLo, walkHi, if_pos, if_neg] using this
      · have := h.thresh (p - 76) (by omega)
        rw [Nat.add_sub_cancel' h3] at this
        simpa (disch := omega) only [walkLo, walkHi, if_pos, if_neg] using this
    refine ⟨bound.1, bound.2, ⟨fun h1 h2 hused => ?_, fun h1 h2 hused => ?_⟩, ?_, ?_, ?_, ?_, ?_, ?_⟩
    · have := h.speedAscent (p - 55) (by omega)
      rwa [show 54 + (p - 55) = p - 1 by omega, show p - 1 + 1 = p by omega] at this
    · have := h.demandAscent (p - 67) (by omega)
      rwa [show 66 + (p - 67) = p - 1 by omega, show p - 1 + 1 = p by omega] at this
    · rintro rfl; exact h.offBelowOn
    · rintro rfl; exact h.unlockBelowLock
    · exact fun _ hj q hq hqp => (h.idsDistinct q p hq hqp hj).symm
    · rintro rfl; exact h.bandLow
    · rintro rfl; exact h.thresh12
    · rintro rfl; exact ⟨h.thresh23, h.bandHigh⟩

end Sys2Proof.Machine
end

section
/-! PROOFS. The working parameters stay valid: a walk has established what it read, a pending swap's shadow holds a set
of values that passed, and a latch takes such a set. -/

namespace Sys2Proof.Machine

/-! ### What a walk has read -/

theorem seenAt_append_lt {seen : List Int} {v : Int} {p : Nat} (hp : p < seen.length) :
    seenAt (seen ++ [v]) p = seenAt seen p := List.getD_append _ _ _ _ hp

theorem seenAt_append_length (seen : List Int) (v : Int) : seenAt (seen ++ [v]) seen.length = v := by
  simp [seenAt]

/-- The values a walk has read after it has passed one more entry. -/
def readOn (pos : Nat) (seen : List Int) (v : Int) : List Int := if pos < 79 then seen ++ [v] else seen

theorem seenAt_readOn_lt {pos : Nat} {seen : List Int} (hlen : seen.length = min pos 79) {v : Int} {p : Nat}
    (hp : p < min pos 79) : seenAt (readOn pos seen v) p = seenAt seen p := by
  unfold readOn
  split
  · exact seenAt_append_lt (by omega)
  · rfl

theorem seenAt_readOn_self {pos : Nat} {seen : List Int} (hlen : seen.length = min pos 79) {v : Int} (hp : pos < 79) :
    seenAt (readOn pos seen v) pos = v := by
  have hpos : pos = seen.length := by omega
  rw [readOn, if_pos hp]
  conv_lhs => rw [hpos]
  exact seenAt_append_length seen v

theorem length_readOn {pos : Nat} {seen : List Int} (hlen : seen.length = min pos 79) (v : Int) :
    (readOn pos seen v).length = min (pos + 1) 79 := by
  unfold readOn
  split
  · simp only [List.length_append, List.length_singleton]; omega
  · omega

/-- One more value that passes the tests against the values before it. -/
theorem PrefixOk.readOn {pos : Nat} {seen : List Int} (h : PrefixOk seen pos) (hlen : seen.length = min pos 79)
    {v : Int} (hrange : pos < 79 → walkLo pos ≤ v ∧ v ≤ walkHi pos) (horder : Ascends seen pos v)
    (hcross : Crosses seen pos v) : PrefixOk (readOn pos seen v) (pos + 1) := by
  rw [prefixOk_iff] at h ⊢
  intro p hp h79
  rcases Nat.lt_or_ge p pos with hlt | hge
  · exact (h p hlt h79).congr h79 fun q hq => (seenAt_readOn_lt hlen (by omega)).symm
  · obtain rfl : p = pos := by omega
    obtain ⟨ascends, crosses⟩ := tests_congr h79 (fun q hq =>
      seenAt_readOn_lt hlen (v := v) (show q < min p 79 by omega)) v
    unfold ValuePasses
    rw [seenAt_readOn_self hlen h79]
    exact ⟨(hrange h79).1, (hrange h79).2, ascends.2 horder, crosses.2 hcross⟩

/-- The walk's next entry: it ends the walk FAILED, or is passed with its first field kept. -/
theorem TableStore.walkStep_cases {t : TableStore} {k : WalkKind} {pos : Nat} {seen : List Int}
    (h : t.walk = .running k pos seen) (hpos : pos < 559) :
    (∃ why, walkReason (t.bank t.walkedBank) pos seen = some why ∧
      t.walkStep = { t with walk := .failed ⟨(tableAt pos).1, (tableAt pos).2, why⟩ }) ∨
    (∃ f, walkReason (t.bank t.walkedBank) pos seen = none ∧ (t.bank t.walkedBank).entryAt pos = .passing f ∧
      t.walkStep = { t with walk := .running k (pos + 1) (readOn pos seen f.f1) }) := by
  unfold TableStore.walkStep
  simp only [h, if_pos hpos]
  cases hreason : walkReason (t.bank t.walkedBank) pos seen with
  | some why => exact .inl ⟨why, rfl, rfl⟩
  | none =>
    obtain ⟨f, hf, -⟩ := (walkReason_eq_none_iff hpos seen).1 hreason
    exact .inr ⟨f, rfl, hf, by simp only [hf]; rfl⟩

theorem WalkInv.walkStep {t : TableStore} {k k' : WalkKind} {pos pos' : Nat} {seen seen' : List Int}
    (h : t.walk = .running k pos seen) (hw : WalkInv t k pos seen)
    (h' : t.walkStep.walk = .running k' pos' seen') : WalkInv t.walkStep k' pos' seen' := by
  rcases Nat.lt_or_ge pos 559 with hpos | hpos
  · rcases TableStore.walkStep_cases h hpos with ⟨why, -, e⟩ | ⟨f, hreason, hf, e⟩
    · rw [e] at h'; cases h'
    · rw [e] at h' ⊢
      cases h'
      obtain ⟨f', hf', ⟨hlo, hhi, -⟩, horder, hcross⟩ := (walkReason_eq_none_iff hpos seen).1 hreason
      obtain rfl : f' = f := by rw [hf] at hf'; exact (Checked.passing.inj hf').symm
      refine ⟨hw.walked, hpos, length_readOn hw.length _, fun p g hp hg => ?_,
        hw.tested.readOn hw.length (fun _ => ⟨hlo, hhi⟩) horder hcross⟩
      rcases Nat.lt_or_ge p pos with hlt | hge
      · rw [seenAt_readOn_lt hw.length (by omega)]
        exact hw.holds p g (by omega) hg
      · obtain rfl : p = pos := by omega
        rw [seenAt_readOn_self hw.length (by omega)]
        rw [show (t.bank t.walkedBank).entryAt p = .passing g from hg] at hf
        exact congrArg BankFields.f1 (Checked.passing.inj hf)
  · have e : t.walkStep = t := by simp [TableStore.walkStep, h, Nat.not_lt.2 hpos]
    rw [e] at h' ⊢
    rw [h] at h'
    cases h'
    exact hw

/-! ### What a latch takes (R20) -/

theorem firstFailing_of_failing_mem {l : List (Checked BankFields)} (p : Nat) (h : Checked.failing ∈ l) :
    firstFailing l p ≠ none := by
  intro hn
  exact (firstFailing_eq_none l p).1 hn _ h rfl

theorem Bank.latchFailure_eq_none_iff (x : Bank) :
    x.latchFailure = none ↔ ∀ p, p < 79 → x.entryAt p ≠ .failing := by
  refine ⟨fun h p hp he => ?_, x.latchFailure_none⟩
  have hmem : Checked.failing ∈ x.entries.toList.take 79 := by
    have hat := x.entryAt_latched p hp
    rw [he] at hat
    exact List.mem_of_getElem? hat
  unfold Bank.latchFailure at h
  exact firstFailing_of_failing_mem 0 hmem (Option.map_eq_none_iff.1 h)

/-- A latch of a bank that holds values which passed takes a valid set. -/
theorem Bank.latched_valid {x : Bank} {vals : List Int} (hlen : vals.length = 79) (htested : PrefixOk vals 79)
    (hholds : x.Holds vals 79) (hlatch : x.latchFailure = none) : x.latched.Valid := by
  have hat : x.latched.at = seenAt vals := by
    funext p
    rcases Nat.lt_or_ge p 79 with hp | hp
    · rw [x.latched_at p hp]
      cases he : x.entryAt p with
      | failing => exact absurd he (x.latchFailure_eq_none_iff.1 hlatch p hp)
      | passing f => exact hholds p f hp he
    · simp [WorkingParams.at, seenAt, hp, hlen]
  unfold WorkingParams.Valid
  rw [hat]
  exact (prefixOk_79_iff vals).1 htested

/-! ### The property of the tables -/

@[simp] theorem TableStore.setVerified_keeps (t : TableStore) (b : BankName) (v : Bool) :
    (t.setVerified b v).shadow = t.shadow ∧ (t.setVerified b v).cellFault = t.cellFault := by
  cases b <;> exact ⟨rfl, rfl⟩

@[simp] theorem TableStore.setBank_keeps (t : TableStore) (b : BankName) (x : Bank) :
    (t.setBank b x).shadow = t.shadow ∧ (t.setBank b x).cellFault = t.cellFault ∧
    (t.setBank b x).verifiedA = t.verifiedA ∧ (t.setBank b x).verifiedB = t.verifiedB := by
  cases b <;> exact ⟨rfl, rfl, rfl, rfl⟩

/-- ParamsInv as far as it speaks of the tables. -/
structure TableStore.ParamsOk (t : TableStore) : Prop where
  valid : t.wp.Valid
  walkNoCopy : t.walk.isRunning = true → t.copy = none ∧ t.swapPending = false
  copyNoSwap : t.copy ≠ none → t.swapPending = false
  walk : ∀ k pos seen, t.walk = .running k pos seen → WalkInv t k pos seen
  pending : t.swapPending = true →
    ∃ vals : List Int, vals.length = 79 ∧ PrefixOk vals 79 ∧ (t.bank t.shadow).Holds vals 79

/-- The working parameters of the cycle under way are valid. -/
def SplitState.CycleValid (x : SplitState) : Prop := ∀ c, x.cycle = some c → c.wp.Valid

theorem paramsInv_iff (s : State) : ParamsInv s ↔ s.tables.ParamsOk ∧ s.split.CycleValid :=
  ⟨fun h => ⟨⟨h.valid, h.walkNoCopy, h.copyNoSwap, h.walk, h.pending⟩, h.cycle⟩,
    fun ⟨h, hc⟩ => ⟨h.valid, hc, h.walkNoCopy, h.copyNoSwap, h.walk, h.pending⟩⟩

/-- What the property reads beside the banks. -/
def TableStore.inHand (t : TableStore) : BankName × Walk × BankName × Option Nat × Bool × WorkingParams :=
  (t.selector, t.walk, t.walkedBank, t.copy, t.swapPending, t.wp)

/-- Entries may fail their checks, and nothing else the property reads may change. -/
theorem TableStore.ParamsOk.mono {t t' : TableStore} (h : t.ParamsOk) (hand : t'.inHand = t.inHand)
    (hbanks : ∀ b p f, (t'.bank b).entryAt p = .passing f → (t.bank b).entryAt p = .passing f) : t'.ParamsOk := by
  simp only [TableStore.inHand, Prod.mk.injEq] at hand
  obtain ⟨hselector, hwalk, hwalked, hcopy, hswap, hwp⟩ := hand
  have hshadow : t'.shadow = t.shadow := congrArg BankName.other hselector
  refine ⟨hwp ▸ h.valid, by rw [hwalk, hcopy, hswap]; exact h.walkNoCopy, by rw [hcopy, hswap]; exact h.copyNoSwap,
    fun k pos seen hw => ?_, fun hp => ?_⟩
  · obtain ⟨walked, posLe, length, holds, tested⟩ := h.walk k pos seen (hwalk ▸ hw)
    refine ⟨?_, posLe, length, fun p f hp hf => ?_, tested⟩
    · rw [hwalked, hshadow, hselector]; exact walked
    · rw [hwalked] at hf; exact holds p f hp (hbanks _ _ _ hf)
  · obtain ⟨vals, hlen, htested, hholds⟩ := h.pending (hswap ▸ hp)
    exact ⟨vals, hlen, htested, fun p f hp hf => hholds p f hp (hbanks _ _ _ (hshadow ▸ hf))⟩

/-- With no walk and no swap in hand valid parameters are enough. -/
theorem TableStore.ParamsOk.of_quiet {t : TableStore} (hvalid : t.wp.Valid) (hwalk : t.walk.isRunning = false)
    (hswap : t.swapPending = false) : t.ParamsOk :=
  ⟨hvalid, fun hw => by simp [hwalk] at hw, fun _ => hswap, fun k pos seen hw => by simp [hw, Walk.isRunning] at hwalk,
    fun hp => by simp [hswap] at hp⟩

theorem defaultWorking_valid : defaultWorking.Valid := by
  have hat : defaultWorking.at = seenAt defaultValues := by
    funext p
    rw [WorkingParams.at, seenAt, List.getD_eq_getElem?_getD, ← Vector.getElem?_toArray]
    exact congrArg (Option.getD · 0) List.getElem?_toArray
  unfold WorkingParams.Valid
  rw [hat, ← prefixOk_79_iff]
  have hall : ∀ p : Fin 79, (fieldRange (tableAt p).1 (tableAt p).2 1).1 ≤ seenAt defaultValues p ∧
      seenAt defaultValues p ≤ (fieldRange (tableAt p).1 (tableAt p).2 1).2 ∧
      orderOk (tableAt p).1 (tableAt p).2 (seenAt defaultValues p) defaultValues = true ∧
      crossOk (tableAt p).1 (tableAt p).2 (seenAt defaultValues p) defaultValues = true := by decide
  exact fun p hp _ => hall ⟨p, hp⟩

/-! ### The property under each move -/

/-- A swap latches the values the pending shadow holds, or is dropped (R19, R20). -/
theorem ParamsInv.takeSwap {s : State} (h : ParamsInv s) (hpending : s.tables.swapPending = true) :
    ParamsInv s.takeSwap := by
  have hwalk : s.tables.walk.isRunning = false := Bool.eq_false_iff.2 fun hw => by
    simpa [hpending] using (h.walkNoCopy hw).2
  rw [paramsInv_iff]
  cases hlatch : (s.tables.bank s.tables.shadow).latchFailure with
  | some f =>
    simp only [State.takeSwap, hlatch]
    exact ⟨.of_quiet (by simpa [TableStore.latchFailed] using h.valid) rfl rfl, h.cycle⟩
  | none =>
    obtain ⟨vals, hlen, htested, hholds⟩ := h.pending hpending
    rw [s.takeSwap_made ((Bank.latchFailure_eq_none_iff _).1 hlatch)]
    refine ⟨.of_quiet (Bank.latched_valid hlen htested hholds hlatch) (by simpa using hwalk) rfl, fun c hc => ?_⟩
    obtain ⟨c0, hc0, rfl⟩ := Option.map_eq_some_iff.1 hc
    exact h.cycle c0 hc0

theorem ParamsInv.commitPassed {s : State} (h : ParamsInv s) {pos : Nat} {seen : List Int}
    (hw : s.tables.walk = .running .commit pos seen) (hpos : 559 ≤ pos) : ParamsInv s.commitPassed := by
  obtain ⟨walked, -, length, holds, tested⟩ := h.walk _ _ _ hw
  obtain ⟨hcopy, -⟩ := h.walkNoCopy (by rw [hw]; rfl)
  have hwaits : ParamsInv (s.setTables { s.tables.setVerified s.tables.walkedBank true with
      walk := .passed, swapPending := true }) := by
    rw [paramsInv_iff]
    refine ⟨⟨by simpa using h.valid, nofun, fun hc => absurd hcopy (by simpa using hc), nofun, fun _ => ?_⟩, h.cycle⟩
    have h79 : min pos 79 = 79 := by omega
    refine ⟨seen, by omega, fun p hp => tested p (by omega), fun p f hp hf => ?_⟩
    have hbank : (s.tables.bank s.tables.walkedBank).entryAt p = .passing f := by
      rw [walked]
      cases hb : s.tables.walkedBank <;> simpa [TableStore.setVerified, TableStore.bank, TableStore.shadow, hb] using hf
    exact holds p f (by omega) hbank
  unfold State.commitPassed
  simp only
  split
  · exact hwaits.takeSwap rfl
  · exact hwaits

theorem ParamsInv.pinResetPassed {s : State} (h : ParamsInv s) {pos : Nat} {seen : List Int}
    (hw : s.tables.walk = .running .pinReset pos seen) (hpos : 559 ≤ pos) : ParamsInv s.pinResetPassed := by
  obtain ⟨-, -, length, holds, tested⟩ := h.walk _ _ _ hw
  obtain ⟨-, hswap⟩ := h.walkNoCopy (by rw [hw]; rfl)
  have h79 : min pos 79 = 79 := by omega
  rw [paramsInv_iff]
  unfold State.pinResetPassed
  simp only
  split
  · exact ⟨.of_quiet (by simpa [TableStore.latchFailed] using h.valid) rfl
      (by simpa [TableStore.latchFailed] using hswap), h.cycle⟩
  · next hlatch =>
    have hvalid := Bank.latched_valid (by omega) (fun p hp => tested p (by omega)) (h79 ▸ holds) hlatch
    refine ⟨.of_quiet (by simpa [State.adopt] using hvalid) rfl (by simpa [State.adopt] using hswap), fun c hc => ?_⟩
    obtain ⟨c0, hc0, rfl⟩ := Option.map_eq_some_iff.1 (show s.split.cycle.map _ = some c from hc)
    exact h.cycle c0 hc0

theorem ParamsInv.startCycle {s : State} (h : ParamsInv s) (k : CycleKind) (hidle : s.split.cycle = none) :
    ParamsInv (s.startCycle k) := by
  obtain ⟨a, ha, htables, -, -, hsplit, -⟩ := s.startCycle_spec k
  have hsettled : ParamsInv (s.setSplit { s.split with waiting := none }).settle :=
    (paramsInv_iff _).2 ⟨((paramsInv_iff s).1 h).1, fun c hc => by simp [hidle] at hc⟩
  have haInv : ParamsInv a := by
    rw [ha]
    unfold State.swapAtStart
    split
    · next hswap => exact hsettled.takeSwap hswap.1
    · exact hsettled
  rw [paramsInv_iff] at haInv ⊢
  rw [htables, hsplit]
  refine ⟨haInv.1, fun c hc => ?_⟩
  cases hc
  simpa [State.fixInputs] using haInv.1.valid

theorem TableStore.ParamsOk.strike {t : TableStore} (h : t.ParamsOk) (e : EntryRef) : (t.strike e).ParamsOk := by
  refine h.mono (by rw [t.strike_frame e]; rfl) fun b p f hf => ?_
  rcases e with ⟨b', tbl, i⟩ | ⟨_ | _ | _, i⟩
  case bank =>
    unfold TableStore.strike at hf
    simp only at hf
    split at hf
    · rw [TableStore.writeBank, TableStore.bank_setBank] at hf
      split at hf
      · next hb =>
        rcases Nat.lt_or_ge p 559 with hp | hp
        · rw [Bank.write, Bank.entryAt_setAt _ _ _ _ hp] at hf
          split at hf
          · cases hf
          · exact hb ▸ hf
        · rw [Bank.entryAt_of_le _ _ hp] at hf; cases hf
      · exact hf
    · exact hf
  case live.forward =>
    unfold TableStore.strike at hf
    simp only at hf
    split at hf <;> exact hf
  case live.watch => exact hf
  case live.faultMap => exact hf

theorem TableStore.ParamsOk.walkStep {t : TableStore} (h : t.ParamsOk) : t.walkStep.ParamsOk := by
  have hframe : t.walkStep = { t with walk := t.walkStep.walk } := by
    unfold TableStore.walkStep
    split
    · split
      · split <;> rfl
      · rfl
    all_goals rfl
  have hrunning : t.walkStep.walk.isRunning = true → t.walk.isRunning = true := by
    unfold TableStore.walkStep
    split
    · next hw => exact fun _ => by rw [hw]; rfl
    all_goals exact id
  refine ⟨by rw [hframe]; exact h.valid, fun hr => by rw [hframe]; exact h.walkNoCopy (hrunning hr),
    by rw [hframe]; exact h.copyNoSwap, fun k pos seen hw => ?_, by rw [hframe]; exact h.pending⟩
  cases hwalk : t.walk with
  | running k0 pos0 seen0 => exact WalkInv.walkStep hwalk (h.walk _ _ _ hwalk) hw
  | _ => simp [TableStore.walkStep, hwalk] at hw

/-- With no walk, copy or swap in hand a bank entry may be written. -/
theorem State.bankBusy_eq_false_iff (s : State) : s.bankBusy = false ↔
    s.tables.walk.isRunning = false ∧ s.tables.copy = none ∧ s.tables.swapPending = false := by
  simp [State.bankBusy, State.walkOrCopy, TableStore.copyRunning, and_assoc]

theorem ParamsInv.congr {s t : State} (h : ParamsInv s) (htables : s.tables.ParamsOk → t.tables.ParamsOk)
    (hcycle : t.split.cycle = s.split.cycle) : ParamsInv t :=
  (paramsInv_iff t).2 ⟨htables ((paramsInv_iff s).1 h).1, fun c hc => h.cycle c (hcycle ▸ hc)⟩

/-- A WRITE or an entry reset of a bank table is taken with nothing in hand, and one of a live table changes no
bank. -/
theorem TableStore.ParamsOk.putBank {t : TableStore} (h : t.ParamsOk) (hwalk : t.walk.isRunning = false)
    (hswap : t.swapPending = false) (b : BankName) (tbl : BankTable) (i : Nat) (f : BankFields) :
    (t.putBank b tbl i f).ParamsOk :=
  .of_quiet (by simpa [TableStore.putBank, TableStore.writeBank] using h.valid)
    (by simpa [TableStore.putBank, TableStore.writeBank] using hwalk)
    (by simpa [TableStore.putBank, TableStore.writeBank] using hswap)

theorem ParamsInv.wrote {s t : State} (h : ParamsInv s) {name : TableName} {i field : Nat} {v : Int}
    (hbusy : (TableName.isBank name && s.bankBusy) = false) (hw : s.writeField name i field v = some t) :
    ParamsInv t := by
  refine h.congr (fun hok => ?_) (by rw [State.writeField_frame hw])
  rcases State.writeField_cases hw with ⟨_, _, rfl, _, rfl⟩ | ⟨_, _, _, _, rfl⟩ | ⟨_, _, _, _, rfl⟩ | ⟨_, _, _, rfl⟩ |
    ⟨_, _, _, rfl⟩
  · obtain ⟨hwalk, -, hswap⟩ := s.bankBusy_eq_false_iff.1 (by simpa [TableName.isBank] using hbusy)
    exact hok.putBank hwalk hswap _ _ _ _
  all_goals exact hok.mono rfl fun _ _ _ hf => hf

theorem ParamsInv.resetEntry {s : State} (h : ParamsInv s) {name : TableName} {i : Nat}
    (hbusy : (TableName.isBank name && s.bankBusy) = false) : ParamsInv (s.resetEntry name i) := by
  refine h.congr (fun hok => ?_) (by simp)
  rcases name with tbl | ⟨_ | _ | _⟩
  case bank =>
    obtain ⟨hwalk, -, hswap⟩ := s.bankBusy_eq_false_iff.1 (by simpa [TableName.isBank] using hbusy)
    exact hok.putBank hwalk hswap _ _ _ _
  case live.forward =>
    unfold State.resetEntry
    simp only
    split <;> exact hok.mono rfl fun _ _ _ hf => hf
  case live.watch => exact hok.mono rfl fun _ _ _ hf => hf
  case live.faultMap => exact hok.mono rfl fun _ _ _ hf => hf

theorem paramsInv_resetBlocks (s : State) {t : TableStore} (k : ResetKind) (ht : t.ParamsOk) :
    ParamsInv (s.resetBlocks t k) :=
  (paramsInv_iff _).2 ⟨by simpa using ht, fun c hc => by simp [resetSplit] at hc⟩

/-- A walk that has tested no entry has established nothing. -/
theorem WalkInv.start {t : TableStore} {k : WalkKind} (h : t.walkedBank = (match k with
    | .commit => t.shadow
    | .pinReset => t.selector)) : WalkInv t k 0 [] :=
  ⟨h, Nat.zero_le _, rfl, fun p _ hp => absurd hp (by simp), fun p hp => absurd hp (by simp)⟩

theorem TableStore.pinResetTables_paramsOk (t : TableStore) : (pinResetTables t).ParamsOk where
  valid := defaultWorking_valid
  walkNoCopy _ := ⟨rfl, rfl⟩
  copyNoSwap _ := rfl
  walk k pos seen hw := by
    obtain ⟨rfl, rfl, rfl⟩ : WalkKind.pinReset = k ∧ 0 = pos ∧ [] = seen := by simpa [pinResetTables] using hw
    exact .start rfl
  pending hp := by simp [pinResetTables] at hp

/-- A running copy excludes a walk and a swap. -/
theorem TableStore.ParamsOk.quiet_of_copy {t : TableStore} (h : t.ParamsOk) (hc : t.copy ≠ none) :
    t.walk.isRunning = false ∧ t.swapPending = false :=
  ⟨Bool.eq_false_iff.2 fun hw => hc (h.walkNoCopy hw).1, h.copyNoSwap hc⟩

theorem TableStore.ParamsOk.copyStep {t : TableStore} (h : t.ParamsOk) : t.copyStep.ParamsOk := by
  unfold TableStore.copyStep
  split
  · exact h
  · next p hc =>
    obtain ⟨hwalk, hswap⟩ := h.quiet_of_copy (by simp [hc])
    split
    · exact .of_quiet (by simpa using h.valid) (by simpa using hwalk) (by simpa using hswap)
    · exact h

theorem State.Move.paramsInv {s t : State} (h : s.Move t) (hs : ParamsInv s) : ParamsInv t := by
  cases h with
  | powerOn => exact paramsInv_resetBlocks s _ (.of_quiet defaultWorking_valid rfl rfl)
  | pin => exact paramsInv_resetBlocks s _ s.tables.pinResetTables_paramsOk
  | upset e => exact hs.congr (fun hok => hok.strike e) rfl
  | walkTest => exact hs.congr (fun hok => hok.walkStep) rfl
  | commitPassed pos seen hw hpos => exact hs.commitPassed hw hpos
  | pinResetPassed pos seen hw hpos => exact hs.pinResetPassed hw hpos
  | copyCarry => exact hs.congr (fun hok => hok.copyStep) rfl
  | copyDone p _ hc =>
    refine hs.congr (fun hok => ?_) rfl
    obtain ⟨hwalk, hswap⟩ := hok.quiet_of_copy (by simp [hc])
    exact .of_quiet (by simpa using hok.valid) (by simpa using hwalk) (by simpa using hswap)
  | started k _ hidle => exact hs.startCycle k hidle
  | completed cyc =>
    refine (paramsInv_iff _).2 ⟨?_, fun c hc => ?_⟩
    · exact ((paramsInv_iff s).1 hs).1.mono (by simp [TableStore.inHand, State.completeCycle]) fun b p f hf => by
        cases b <;> simpa [TableStore.bank, State.completeCycle] using hf
    · rw [State.completeCycle_split] at hc
      simp [SplitState.completed] at hc
  | wrote _ name i field v _ hbusy hw => exact hs.wrote hbusy hw
  | entryReset name i _ hbusy => exact hs.resetEntry hbusy
  | copyBegun _ hbusy =>
    obtain ⟨hwalk, -, hswap⟩ := s.bankBusy_eq_false_iff.1 hbusy
    exact hs.congr (fun hok => .of_quiet (by simpa [State.startCopy] using hok.valid)
      (by simpa [State.startCopy] using hwalk) (by simpa [State.startCopy] using hswap)) rfl
  | commitBegun _ hbusy =>
    obtain ⟨-, hcopy, hswap⟩ := s.bankBusy_eq_false_iff.1 hbusy
    refine hs.congr (fun hok => ⟨hok.valid, fun _ => ⟨hcopy, hswap⟩, fun _ => hswap, fun k pos seen hw => ?_,
      fun hp => ?_⟩) rfl
    · obtain ⟨rfl, rfl, rfl⟩ : WalkKind.commit = k ∧ 0 = pos ∧ [] = seen := by simpa [State.startCommit] using hw
      exact .start rfl
    · rw [show s.tables.swapPending = true from hp] at hswap; cases hswap
  | cancelled =>
    refine hs.congr (fun hok => ⟨hok.valid, fun hw => ⟨(hok.walkNoCopy hw).1, rfl⟩, fun _ => rfl,
      fun k pos seen hw => ?_, nofun⟩) rfl
    obtain ⟨walked, posLe, length, holds, tested⟩ := hok.walk k pos seen hw
    exact ⟨walked, posLe, length, holds, tested⟩
  | cellAcked => exact hs.congr (fun hok => hok.mono rfl fun _ _ _ hf => hf) rfl
  | accepted r f => exact hs.congr (fun hok => by simpa using hok) (by rw [State.handAcceptance_split]; split <;> simp)
  | _ => exact hs.congr (fun hok => by simpa using hok) (by simp)

/-- Settles O13: every move keeps the working parameters valid, with what the walk and a pending swap hold. -/
theorem stepKeepsWorkingParametersValid : Obligations.StepKeepsWorkingParametersValid :=
  fun _ _ hs => step_keeps (fun _ _ h => h.congr id rfl) (fun _ _ => State.Move.paramsInv) hs

end Sys2Proof.Machine
end

section
/-! PROOFS. The Regime Controller: every change of it is a chain of entries, counts and timer stops, and what each of
these keeps (R94, R102, R110, R112, R125). -/

namespace Sys2Proof.Machine

/-! ### The single changes -/

/-- One change of the Regime Controller, with the guard that lets it happen. -/
inductive RegimeState.Step (wp : WorkingParams) (r : RegimeState) : RegimeState → Prop
  | entered (m : Mode) (cranks : m.regime = .crank → r.mode = .electric ∧ r.retryT.isRunning = false ∧
      (r.attempts : Int) < wp.crankAttemptsMax)
    (leaves : r.mode = .electric → m.regime = .crank ∨ m = .standby ∨ m = .limpEngineStart ∨ m = .limpEngineDrive ∨
      m = .limpMotor ∨ m = .safe) : Step wp r (r.enter wp m)
  | headed (d : Destination) : Step wp r { r with dest := d }
  | confirmed (m : Mode) (lands : m.regime = .sync ∨ m = .limpEngineDrive) (leaves : r.mode ≠ .electric) :
    Step wp r ((r.startMinRun wp).enter wp m)
  | matched (n : Nat) (inMatch : r.mode = .syncMatch) (bound : n ≤ wp.syncConfirm.toNat) :
    Step wp r { r with matchCount := n }
  | dwelt (w u : Nat) (want : w ≤ 255) (unwant : u ≤ 65535) (one : w = 0 ∨ u = 0) :
    Step wp r { r with want := w, unwant := u }
  | lowered (a : Nat) (bound : a ≤ r.attempts) : Step wp r { r with attempts := a }
  | crankFailed (retry : Timer) (cranks : r.mode.regime = .crank) :
    Step wp r { r.enter wp .electric with attempts := r.attempts + 1, retryT := retry }
  | clutchStopped : Step wp r { r with clutchT := .stopped }
  | retryStopped : Step wp r { r with retryT := .stopped }
  | minRunExpired (period : Nat) (running : r.minRun = .running period) : Step wp r { r with minRun := .expired }

/-- A chain of changes. -/
abbrev RegimeState.Steps (wp : WorkingParams) : RegimeState → RegimeState → Prop :=
  Relation.ReflTransGen (RegimeState.Step wp)

/-- An entry from a regime other than ELECTRIC to one other than CRANK. -/
theorem RegimeState.enter_steps {wp : WorkingParams} {r : RegimeState} {m : Mode} (hm : m.regime ≠ .crank)
    (hr : r.mode ≠ .electric) : r.Steps wp (r.enter wp m) :=
  .single (.entered m (fun h => absurd h hm) (fun h => absurd h hr))

/-- An entry to STANDBY, a LIMP regime or SAFE, from anywhere. -/
theorem RegimeState.leave_steps {wp : WorkingParams} {r : RegimeState} {m : Mode}
    (hm : m = .standby ∨ m = .limpEngineStart ∨ m = .limpEngineDrive ∨ m = .limpMotor ∨ m = .safe) :
    r.Steps wp (r.enter wp m) :=
  .single (.entered m (fun h => by rcases hm with rfl | rfl | rfl | rfl | rfl <;> cases h) fun _ => .inr hm)

theorem RegimeState.enterToward_steps {wp : WorkingParams} {r : RegimeState} {m : Mode} (d : Destination)
    (hm : m.regime ≠ .crank) (hr : r.mode ≠ .electric) : r.Steps wp (r.enterToward wp m d) :=
  .tail (RegimeState.enter_steps hm hr) (.headed d)

theorem syncModeFor_regime (wp : WorkingParams) (speed : Int) : (syncModeFor wp speed).regime = .sync := by
  unfold syncModeFor
  split <;> rfl

/-! ### Settling (R99) -/

section
variable {wp : WorkingParams}

theorem RegimeState.stall_steps (r : RegimeState) : r.Steps wp (r.stall wp) := by
  unfold RegimeState.stall
  split
  case h_1 h | h_2 h | h_3 h | h_4 h => exact RegimeState.enterToward_steps _ (by decide) (by simp [h])
  case h_5 h => exact RegimeState.enter_steps (by decide) (by simp [h])
  case h_6 h => exact RegimeState.enter_steps (by decide) (by simp [h])
  all_goals exact .refl

theorem RegimeState.settleReady_steps (i : SettleInputs) (r : RegimeState) : r.Steps wp (r.settleReady wp i) := by
  unfold RegimeState.settleReady
  split
  · exact .refl
  · split
    case h_1 | h_2 => exact .refl
    case h_3 | h_4 | h_5 | h_6 | h_7 | h_8 => exact RegimeState.leave_steps (.inl rfl)
    case h_9 h | h_10 h | h_11 h | h_12 h => exact RegimeState.enterToward_steps _ (by decide) (by simp [h])
    case h_13 | h_14 => exact .single (.headed _)

theorem RegimeState.enterLimpEngine_steps (i : SettleInputs) (r : RegimeState) :
    r.Steps wp (r.enterLimpEngine wp i) := by
  unfold RegimeState.enterLimpEngine
  split
  · exact RegimeState.leave_steps (by decide)
  · exact RegimeState.leave_steps (by decide)

theorem RegimeState.settleLimp_steps (i : SettleInputs) (r : RegimeState) : r.Steps wp (r.settleLimp wp i) := by
  unfold RegimeState.settleLimp
  split
  · exact .refl
  · split_ifs
    · exact RegimeState.enterLimpEngine_steps i r
    · exact .refl
    · exact .refl
    · exact RegimeState.enterLimpEngine_steps i r
  · split_ifs
    · exact RegimeState.leave_steps (by decide)
    · exact .refl
    · exact .refl
    · exact RegimeState.leave_steps (by decide)
  · split
    case h_1 h =>
      split
      · exact RegimeState.enter_steps (by decide) (by simp [h])
      · exact RegimeState.enter_steps (by rw [syncModeFor_regime]; decide) (by simp [h])
    case h_2 h | h_3 h => exact RegimeState.enter_steps (by decide) (by simp [h])
    all_goals exact .refl

theorem RegimeState.settleStandbyExit_steps (i : SettleInputs) (r : RegimeState) :
    r.Steps wp (r.settleStandbyExit wp i) := by
  unfold RegimeState.settleStandbyExit
  split
  · next h => exact RegimeState.enter_steps (by decide) (by simp [h.1])
  · exact .refl

theorem RegimeState.settleLock_steps (i : SettleInputs) (r : RegimeState) : r.Steps wp (r.settleLock wp i) := by
  unfold RegimeState.settleLock
  split
  · split
    case h_1 h | h_2 h => exact RegimeState.enterToward_steps _ (by decide) (by simp [h])
    case h_3 h => exact RegimeState.enter_steps (by decide) (by simp [h])
    all_goals exact .refl
  · exact .refl

theorem RegimeState.settleSyncPhase_steps (i : SettleInputs) (r : RegimeState) :
    r.Steps wp (r.settleSyncPhase wp i) := by
  unfold RegimeState.settleSyncPhase
  split
  · next h =>
    exact RegimeState.enter_steps (by rw [syncModeFor_regime]; decide) fun he => by simp [he, Mode.regime] at h
  · exact .refl

theorem RegimeState.settleUnlock_steps (i : SettleInputs) (r : RegimeState) : r.Steps wp (r.settleUnlock wp i) := by
  unfold RegimeState.settleUnlock
  split
  · split
    case h_1 h | h_2 h | h_3 h => exact RegimeState.enter_steps (by decide) (by simp [h])
    all_goals exact .refl
  · exact .refl

theorem RegimeState.settleStall_steps (i : SettleInputs) (r : RegimeState) : r.Steps wp (r.settleStall wp i) := by
  unfold RegimeState.settleStall
  split
  · exact r.stall_steps
  · exact .refl

theorem RegimeState.settle_steps (i : SettleInputs) (r : RegimeState) : r.Steps wp (r.settle wp i) := by
  unfold RegimeState.settle
  split
  · split
    · exact .refl
    · exact RegimeState.leave_steps (by decide)
  · split
    · split
      · exact .refl
      · exact RegimeState.leave_steps (by decide)
    · exact ((((((r.settleReady_steps i).trans (RegimeState.settleLimp_steps i _)).trans
        (RegimeState.settleStandbyExit_steps i _)).trans (RegimeState.settleLock_steps i _)).trans
        (RegimeState.settleSyncPhase_steps i _)).trans (RegimeState.settleUnlock_steps i _)).trans
        (RegimeState.settleStall_steps i _)

/-! ### Completions, reports and expiries (R100, R108 to R118) -/

theorem RegimeState.countDwell_steps (wanted : Bool) (r : RegimeState) : r.Steps wp (r.countDwell wanted) := by
  unfold RegimeState.countDwell
  split
  · exact .single (.dwelt _ _ (by omega) (by omega) (.inr rfl))
  · exact .single (.dwelt _ _ (by omega) (by omega) (.inl rfl))

theorem RegimeState.crankAllowed_iff (i : CompletionInputs) (r : RegimeState) : r.crankAllowed wp i = true ↔
    wp.onDwell ≤ (r.want : Int) ∧ r.retryT.isRunning = false ∧ i.crankFailClear = true ∧
      (r.attempts : Int) < wp.crankAttemptsMax ∧ i.engineFresh = true := by
  simp [RegimeState.crankAllowed, and_assoc]

theorem RegimeState.completionTest_steps (i : CompletionInputs) (r : RegimeState) :
    r.Steps wp (r.completionTest wp i) := by
  unfold RegimeState.completionTest
  split
  case h_1 h =>
    split
    · next hallowed =>
      obtain ⟨-, hretry, -, hattempts, -⟩ := (r.crankAllowed_iff i).1 hallowed
      refine .single (.entered _ (fun _ => ⟨h, hretry, hattempts⟩) fun _ => .inl ?_)
      split <;> rfl
    · exact .refl
  case h_2 h | h_3 h | h_4 h =>
    split
    · exact RegimeState.enterToward_steps _ (by decide) (by simp [h])
    · exact .refl
  case h_5 h =>
    split_ifs
    · exact .refl
    · exact RegimeState.enter_steps (by decide) (by simp [h])
    · exact RegimeState.enter_steps (by decide) (by simp [h])
    · exact .refl
  all_goals exact .refl

theorem RegimeState.matchTest_steps {r : RegimeState} (h : r.mode = .syncMatch) (v : EngineVals) (speed : Int)
    (lock : Bool) : r.Steps wp (r.matchTest wp v speed lock) := by
  unfold RegimeState.matchTest
  simp only
  split_ifs with hout hfew
  · exact .single (.matched 0 h (Nat.zero_le _))
  · exact .single (.matched _ h (by omega))
  · exact .single (.matched _ h le_rfl)
  · exact .trans (.single (.matched _ h le_rfl)) (RegimeState.enter_steps (by decide) (by simp [h]))

theorem RegimeState.engineReport_steps (v : EngineVals) (speed : Int) (lock : Bool) (r : RegimeState) :
    r.Steps wp (r.engineReport wp v speed lock) := by
  unfold RegimeState.engineReport
  split
  case h_1 h | h_2 h =>
    split
    · exact .single (.confirmed _ (.inl (syncModeFor_regime _ _)) (by simp [h]))
    · exact .refl
  case h_3 h =>
    split
    · exact .single (.confirmed _ (.inr rfl) (by simp [h]))
    · exact .refl
  case h_4 h =>
    split
    · exact RegimeState.matchTest_steps h v speed lock
    · exact r.stall_steps
  case h_5 | h_6 | h_7 | h_8 | h_9 =>
    split
    · exact .refl
    · exact r.stall_steps
  all_goals exact .refl

theorem Destination.mode_regime (d : Destination) : d.mode.regime ≠ .crank := by cases d <;> decide

theorem RegimeState.clutchReport_steps (c : ClutchState) (r : RegimeState) : r.Steps wp (r.clutchReport wp c) := by
  unfold RegimeState.clutchReport
  split
  · next h => exact RegimeState.enter_steps (by decide) (by simp [h])
  · next h => exact RegimeState.enter_steps r.dest.mode_regime (by simp [h])
  · exact .refl

end

/-! ### What each change keeps -/

/-- A named working parameter is the value at its index. -/
theorem WorkingParams.at_eq (w : WorkingParams) {p : Nat} (hp : p < 79) : w.at p = w.values[p] := by
  simp [WorkingParams.at, hp]

theorem WorkingParams.Valid.syncConfirm_range {w : WorkingParams} (h : w.Valid) :
    1 ≤ w.syncConfirm ∧ w.syncConfirm ≤ 20 := by
  have hrow := h.param 29 (by decide)
  rwa [w.at_eq (by decide)] at hrow

theorem WorkingParams.Valid.crankAttemptsMax_range {w : WorkingParams} (h : w.Valid) :
    1 ≤ w.crankAttemptsMax ∧ w.crankAttemptsMax ≤ 5 := by
  have hrow := h.param 26 (by decide)
  rwa [w.at_eq (by decide)] at hrow

/-- RegimeInv as far as it speaks of the Regime Controller alone, in a part that is not reset. -/
structure RegimeState.Timed (r : RegimeState) : Prop where
  crankTimer : r.crankT.isRunning = true ↔
    r.mode = .crankStarter ∨ r.mode = .crankClutch ∨ r.mode = .limpEngineStart
  syncTimer : r.syncT.isRunning = true ↔ r.mode = .syncMatch
  clutchTimer : r.clutchT.isRunning = true → r.mode = .hybridLocking ∨ r.mode = .releaseOpening
  retryTimer : r.retryT.isRunning = true → r.mode = .electric
  minRun : r.minRun ≠ .idle → r.mode.regime = .sync ∨ r.mode.regime = .hybrid ∨ r.mode.regime = .release ∨
    r.mode = .limpEngineDrive
  want : r.want ≤ 255
  unwant : r.unwant ≤ 65535
  dwell : r.want = 0 ∨ r.unwant = 0
  safeN : r.safeNLow = true ↔ r.mode = .safe

/-- An entry sets every timer right, if the retry timer and the min-run state it keeps fit the regime entered. -/
theorem RegimeState.Timed.enter {r : RegimeState} (h : r.Timed) (wp : WorkingParams) (m : Mode)
    (hretry : r.retryT.isRunning = true →
      m = .electric ∨ m = .standby ∨ m = .limpEngineStart ∨ m = .limpEngineDrive ∨ m = .limpMotor ∨ m = .safe)
    (hminRun : m.regime = .crank → r.minRun = .idle) : (r.enter wp m).Timed where
  crankTimer := by cases m <;> simp [RegimeState.enter]
  syncTimer := by cases m <;> simp [RegimeState.enter]
  clutchTimer := by cases m <;> simp [RegimeState.enter]
  retryTimer hr := by cases m <;> simp [RegimeState.enter] at hr ⊢ <;> simpa using hretry hr
  minRun hm := by cases m <;> simp [RegimeState.enter, Mode.regime] at hm hminRun ⊢ <;> exact hm hminRun
  want := h.want
  unwant := h.unwant
  dwell := h.dwell
  safeN := by simp [RegimeState.enter]

theorem RegimeState.Step.timed {wp : WorkingParams} {r r' : RegimeState} (h : r.Step wp r') (hr : r.Timed) :
    r'.Timed := by
  cases h with
  | entered m cranks leaves =>
    refine hr.enter wp m (fun hretry => ?_) fun hm => ?_
    · rcases leaves (hr.retryTimer hretry) with hm | hm
      · rw [(cranks hm).2.1] at hretry; cases hretry
      · exact .inr hm
    · by_contra hrun
      simpa [(cranks hm).1, Mode.regime] using hr.minRun hrun
  | headed d => exact { hr with }
  | confirmed m lands leaves =>
    have hcounts : (r.startMinRun wp).enter wp m = { r.enter wp m with
        minRun := ((r.startMinRun wp).enter wp m).minRun } := by cases m <;> rfl
    have hcrank : m.regime ≠ .crank := fun hm => by rcases lands with h | rfl <;> [rw [h] at hm; skip] <;> cases hm
    have entered := hr.enter wp m (fun hretry => absurd (hr.retryTimer hretry) leaves) fun hm => absurd hm hcrank
    rw [hcounts]
    exact { entered with minRun := fun _ => by rcases lands with h | h <;> simp [h] }
  | matched n => exact { hr with }
  | dwelt w u want unwant one => exact { hr with want, unwant, dwell := one }
  | lowered a => exact { hr with }
  | crankFailed retry cranks =>
    have entered := hr.enter wp .electric (fun _ => .inl rfl) nofun
    exact { entered with retryTimer := fun _ => rfl }
  | clutchStopped => exact { hr with clutchTimer := nofun }
  | retryStopped => exact { hr with retryTimer := nofun }
  | minRunExpired period running => exact { hr with minRun := fun _ => hr.minRun (by simp [running]) }

theorem RegimeState.Steps.timed {wp : WorkingParams} {r r' : RegimeState} (h : r.Steps wp r') (hr : r.Timed) :
    r'.Timed := by
  induction h with
  | refl => exact hr
  | tail _ hstep ih => exact hstep.timed ih

/-- The counts of AttemptsInv, as far as it speaks of the Regime Controller. -/
structure RegimeState.Counted (wp : WorkingParams) (r : RegimeState) : Prop where
  attempts : (r.attempts : Int) ≤ wp.crankAttemptsMax
  inCrank : r.mode.regime = .crank → (r.attempts : Int) < wp.crankAttemptsMax
  matches20 : r.matchCount ≤ 20
  inSync : r.mode.regime = .sync → (r.matchCount : Int) ≤ wp.syncConfirm

theorem RegimeState.enter_attempts (wp : WorkingParams) (m : Mode) (r : RegimeState) :
    (r.enter wp m).attempts ≤ r.attempts := by
  unfold RegimeState.enter
  simp only
  split <;> omega

/-- An entry keeps the match count or sets it to 0, and to either phase of SYNC it is 0 (R98, R106, R111). -/
theorem RegimeState.enter_matchCount (wp : WorkingParams) (m : Mode) (r : RegimeState) :
    ((r.enter wp m).matchCount = r.matchCount ∨ (r.enter wp m).matchCount = 0) ∧
      (m.regime = .sync → (r.enter wp m).matchCount = 0) := by
  constructor
  · cases m
    case releaseOpening => exact (ite_eq_or_eq _ _ _).symm
    all_goals simp [RegimeState.enter]
  · cases m <;> simp [RegimeState.enter, Mode.regime]

theorem RegimeState.Counted.enter {wp : WorkingParams} {r : RegimeState} (h : r.Counted wp) (hwp : wp.Valid)
    (m : Mode) (hm : m.regime = .crank → (r.attempts : Int) < wp.crankAttemptsMax) : (r.enter wp m).Counted wp := by
  have hle := RegimeState.enter_attempts wp m r
  obtain ⟨hcount, hsync⟩ := RegimeState.enter_matchCount wp m r
  have hconfirm := hwp.syncConfirm_range
  refine ⟨?_, fun hc => ?_, ?_, fun hc => ?_⟩
  · have := h.attempts; omega
  · have := hm hc; omega
  · have := h.matches20
    rcases hcount with e | e <;> omega
  · rw [hsync hc]
    omega

theorem RegimeState.Step.counted {wp : WorkingParams} {r r' : RegimeState} (h : r.Step wp r') (hwp : wp.Valid)
    (hr : r.Counted wp) : r'.Counted wp := by
  cases h with
  | entered m cranks leaves => exact hr.enter hwp m fun hm => (cranks hm).2.2
  | headed | dwelt | clutchStopped | retryStopped | minRunExpired => exact { hr with }
  | confirmed m lands leaves =>
    have started : (r.startMinRun wp).Counted wp := { hr with }
    exact started.enter hwp m fun hm => by rcases lands with h | rfl <;> [rw [h] at hm; skip] <;> cases hm
  | matched n inMatch bound =>
    have hconfirm := hwp.syncConfirm_range
    refine ⟨hr.attempts, hr.inCrank, ?_, fun _ => ?_⟩ <;> simp only <;> omega
  | lowered a bound =>
    refine ⟨?_, fun hc => ?_, hr.matches20, hr.inSync⟩
    · have := hr.attempts; simp only; omega
    · have := hr.inCrank hc; simp only; omega
  | crankFailed retry cranks =>
    have entered := hr.enter hwp .electric nofun
    have := hr.inCrank cranks
    exact { entered with attempts := by simp only; omega, inCrank := nofun }

theorem RegimeState.Steps.counted {wp : WorkingParams} {r r' : RegimeState} (h : r.Steps wp r') (hwp : wp.Valid)
    (hr : r.Counted wp) : r'.Counted wp := by
  induction h with
  | refl => exact hr
  | tail _ hstep ih => exact hstep.counted hwp ih

end Sys2Proof.Machine
end

section
/-! PROOFS. The Regime Controller's standing properties under every move of the part (R94, R102, R110, R125, R127). -/

namespace Sys2Proof.Machine

/-! ### The regime under the operations of the part -/

/-- A swap that is dropped, and one that is made (R19, R20). -/
theorem State.takeSwap_cases (s : State) :
    (∃ f, (s.tables.bank s.tables.shadow).latchFailure = some f ∧
      s.takeSwap = s.setTables { s.tables.latchFailed s.tables.shadow f with swapPending := false }) ∨
    ((s.tables.bank s.tables.shadow).latchFailure = none ∧ s.takeSwap = { s with
      tables := { (s.tables.setVerified s.tables.selector false) with
        selector := s.tables.shadow, swapPending := false, wp := (s.tables.bank s.tables.shadow).latched }
      limits := { s.limits with static := staticRecord (s.tables.bank s.tables.shadow).latched }
      regime := { s.regime with
        attempts := min s.regime.attempts (s.tables.bank s.tables.shadow).latched.crankAttemptsMax.toNat
        want := 0, unwant := 0 }
      split := { s.split with
        recompute := true, cycle := s.split.cycle.map fun c => { c with remarked := true } } }) := by
  cases hlatch : (s.tables.bank s.tables.shadow).latchFailure with
  | some f => exact .inl ⟨f, rfl, by simp only [State.takeSwap, hlatch]⟩
  | none => exact .inr ⟨rfl, s.takeSwap_made ((Bank.latchFailure_eq_none_iff _).1 hlatch)⟩

/-- Before its conditions hold STANDBY is not left (R105). -/
theorem RegimeState.settle_standby_stays {wp : WorkingParams} {i : SettleInputs} {r : RegimeState}
    (hm : r.mode = .standby) (hmay : i.mayLeaveStandby = false) : r.settle wp i = r := by
  have hready : r.settleReady wp i = r := by simp [RegimeState.settleReady, hm]
  have hlimp : r.settleLimp wp i = r := by unfold RegimeState.settleLimp; cases i.cons <;> simp [hm, hmay]
  have hexit : r.settleStandbyExit wp i = r := by simp [RegimeState.settleStandbyExit, hmay]
  have hlock : r.settleLock wp i = r := by simp [RegimeState.settleLock, hm]
  have hphase : r.settleSyncPhase wp i = r := by simp [RegimeState.settleSyncPhase, hm, Mode.regime]
  have hunlock : r.settleUnlock wp i = r := by simp [RegimeState.settleUnlock, hm]
  have hstall : r.settleStall wp i = r := by simp [RegimeState.settleStall, RegimeState.stall, hm]
  unfold RegimeState.settle
  rw [hready, hlimp, hexit, hlock, hphase, hunlock, hstall]
  simp [hm]

/-- In STANDBY no completion, report or timer expiry changes the regime. -/
theorem RegimeState.standby_stays {wp : WorkingParams} {r : RegimeState} (hm : r.mode = .standby) :
    (∀ i, r.completionTest wp i = r) ∧ (∀ v speed lock, r.engineReport wp v speed lock = r) ∧
      (∀ c, r.clutchReport wp c = r) := by
  refine ⟨fun i => by simp [RegimeState.completionTest, hm], fun v speed lock => by simp [RegimeState.engineReport, hm],
    fun c => by simp [RegimeState.clutchReport, hm]⟩

/-- The entries in force are read from the fault map alone. -/
theorem entriesInForce_congr {t t' : TableStore} (h : t'.faultMap = t.faultMap) (f : FaultUnit) :
    entriesInForce f t' = entriesInForce f t := by
  have hentry : t'.faultEntry = t.faultEntry := by
    funext i
    unfold TableStore.faultEntry
    rw [h]
  unfold entriesInForce
  rw [hentry]

/-- What an acceptance makes of the Regime Controller (R108 to R118): ENGINE and CLUTCH reports alone reach it. -/
theorem State.handAcceptance_regime (s : State) (r : Role) : (s.handAcceptance r).regime =
    match r with
    | .engine => s.regime.engineReport s.tables.wp s.intake.engine s.intake.effInverter.speed
      (openChoice (Config.regimeBeforeFault s.freeIx) s.lockReading
        (s.handFlag srcEngineFault s.intake.engine.fault).lockReading)
    | .clutch => s.regime.clutchReport s.tables.wp s.intake.clutch.state
    | .demand | .battery | .inverter | .brake => s.regime := by
  cases r
  case demand | brake => rfl
  case battery => simp [State.handAcceptance, State.handBattery]
  case inverter => simp [State.handAcceptance, State.handInverter]
  case clutch => simp [State.handAcceptance, State.handClutch]
  case engine => simp [State.handAcceptance, State.handEngine, State.lockReading]

/-- What the completion tests of a cycle read (R100). -/
def State.completionInputs (s : State) (cyc : CycleInputs) : CompletionInputs where
  cycleMode := cyc.mode
  cycleSpeed := cyc.speed
  engineCmd := engineTorque cyc (computeCycle s.tables s.split cyc).projection
  wanted := (computeCycle s.tables s.split cyc).wanted
  lock := s.lockReading
  crankFailClear := decide (s.faults.sources[srcCrankFail].state = .clear)
  engineFresh := decide (s.intake.streams.engine.state = .fresh)

/-- What a completion makes of the Regime Controller (R100). -/
theorem State.completeCycle_regime (s : State) (cyc : CycleInputs) : (s.completeCycle cyc).regime =
    (s.regime.countDwell (computeCycle s.tables s.split cyc).wanted).completionTest s.tables.wp
      (s.completionInputs cyc) := by
  unfold State.completeCycle State.completeRegime State.completionInputs State.lockReading
  simp only [State.setRegime_regime, State.evaluateWatches_keeps, State.fillSlots_keeps, State.setSplit_tables,
    State.setTables_tables, State.setSplit_regime, State.setTables_regime, State.setSplit_faults,
    State.setTables_faults, State.setSplit_intake, State.setTables_intake]
  rfl

theorem State.crankExpiry_regime (s : State) : s.crankExpiry.regime =
    match s.regime.mode with
    | .crankStarter | .crankClutch => { s.regime.enter s.tables.wp .electric with
        attempts := s.regime.attempts + 1
        retryT := if s.tables.wp.retryWait ≤ 0 then s.regime.retryT else .start s.tables.wp.retryWait }
    | .limpEngineStart => s.regime.enter s.tables.wp .safe
    | _ => { s.regime with crankT := .stopped } := by
  unfold State.crankExpiry
  simp only
  cases s.regime.mode
  case crankStarter | crankClutch => simp only; split <;> rfl
  all_goals rfl

theorem RegimeState.Timed.crankExpiry_steps {s : State} (h : s.regime.Timed) (hrun : s.regime.crankT.isRunning = true) :
    s.regime.Steps s.tables.wp s.crankExpiry.regime := by
  rw [State.crankExpiry_regime]
  rcases h.crankTimer.1 hrun with hm | hm | hm <;> rw [hm]
  · exact .single (.crankFailed _ (by simp [hm, Mode.regime]))
  · exact .single (.crankFailed _ (by simp [hm, Mode.regime]))
  · exact RegimeState.leave_steps (by decide)

/-! ### RegimeInv -/

theorem RegimeInv.timed {s : State} (h : RegimeInv s) (hreset : s.resetApplied = none) : s.regime.Timed :=
  ⟨h.crankTimer, h.syncTimer, h.clutchTimer, h.retryTimer, h.minRun, h.want, h.unwant, h.dwell,
    by simpa [hreset] using h.safeN⟩

theorem RegimeInv.of_timed {s : State} (h : s.regime.Timed) (hreset : s.resetApplied = none)
    (hfirst : s.split.started = false → s.regime.mode = .standby ∧ s.split.cycle = none)
    (hpin : s.tables.walk.isPinReset = true → s.regime.mode = .standby) : RegimeInv s :=
  ⟨h.crankTimer, h.syncTimer, h.clutchTimer, h.retryTimer, h.minRun, h.want, h.unwant, h.dwell,
    by simpa [hreset] using h.safeN, fun hr => absurd hreset hr, hfirst, hpin⟩

/-- The Regime Controller takes a chain of changes that leaves it in STANDBY where it stood there. -/
theorem RegimeInv.stepped {s t : State} (h : RegimeInv s) {wp : WorkingParams} (hsteps : s.regime.Steps wp t.regime)
    (hs : s.resetApplied = none) (ht : t.resetApplied = none)
    (hstay : s.regime.mode = .standby → t.regime.mode = .standby)
    (hfirst : t.split.started = false → s.split.started = false ∧ (s.split.cycle = none → t.split.cycle = none))
    (hwalk : t.tables.walk.isPinReset = true → s.tables.walk.isPinReset = true) : RegimeInv t := by
  refine .of_timed (hsteps.timed (h.timed hs)) ht (fun hst => ?_) fun hw => hstay (h.pinWalk (hwalk hw))
  obtain ⟨hstarted, hcycle⟩ := hfirst hst
  obtain ⟨hm, hc⟩ := h.first hstarted
  exact ⟨hstay hm, hcycle hc⟩

/-- Of the Regime Controller the counts alone change; this may happen while a reset is applied too. -/
theorem RegimeInv.recounted {s t : State} (h : RegimeInv s) {a w u : Nat}
    (hregime : t.regime = { s.regime with attempts := a, want := w, unwant := u })
    (hdwell : w = s.regime.want ∧ u = s.regime.unwant ∨ w = 0 ∧ u = 0) (hreset : t.resetApplied = s.resetApplied)
    (hfirst : t.split.started = false → s.split.started = false ∧ (s.split.cycle = none → t.split.cycle = none))
    (hwalk : t.tables.walk.isPinReset = true → s.tables.walk.isPinReset = true) : RegimeInv t := by
  have hw := h.want
  have hu := h.unwant
  have hd := h.dwell
  refine ⟨?_, ?_, ?_, ?_, ?_, ?_, ?_, ?_, ?_, ?_, fun hst => ?_, fun hp => ?_⟩ <;> rw [hregime]
  · exact h.crankTimer
  · exact h.syncTimer
  · exact h.clutchTimer
  · exact h.retryTimer
  · exact h.minRun
  · show w ≤ 255; omega
  · show u ≤ 65535; omega
  · show w = 0 ∨ u = 0; omega
  · rw [hreset]; exact h.safeN
  · rw [hreset]; exact h.standby
  · obtain ⟨hstarted, hcycle⟩ := hfirst hst
    obtain ⟨hm, hc⟩ := h.first hstarted
    exact ⟨hm, hcycle hc⟩
  · exact h.pinWalk (hwalk hp)

theorem RegimeInv.congr {s t : State} (h : RegimeInv s) (hregime : t.regime = s.regime)
    (hreset : t.resetApplied = s.resetApplied) (hstarted : t.split.started = s.split.started)
    (hcycle : t.split.cycle = s.split.cycle)
    (hwalk : t.tables.walk.isPinReset = true → s.tables.walk.isPinReset = true) : RegimeInv t :=
  h.recounted hregime (.inl ⟨rfl, rfl⟩) hreset (fun hs => ⟨hstarted ▸ hs, fun hc => hcycle.trans hc⟩) hwalk

theorem RegimeInv.takeSwap {s : State} (h : RegimeInv s) : RegimeInv s.takeSwap := by
  rcases s.takeSwap_cases with ⟨f, -, e⟩ | ⟨-, e⟩ <;> rw [e]
  · exact h.congr rfl rfl rfl rfl nofun
  · exact h.recounted rfl (.inr ⟨rfl, rfl⟩) rfl (fun hs => ⟨hs, fun hc => by simp [hc]⟩) (by simp)

theorem TableStore.walkStep_isPinReset (t : TableStore) (h : t.walkStep.walk.isPinReset = true) :
    t.walk.isPinReset = true := by
  cases hw : t.walk with
  | running k pos seen =>
    rcases Nat.lt_or_ge pos 559 with hpos | hpos
    · rcases TableStore.walkStep_cases hw hpos with ⟨why, -, e⟩ | ⟨f, -, -, e⟩ <;> rw [e] at h
      · cases h
      · cases k <;> exact h
    · simpa [TableStore.walkStep, hw, Nat.not_lt.2 hpos] using h
  | _ => simpa [TableStore.walkStep, hw] using h

theorem RegimeInv.commitPassed {s : State} (h : RegimeInv s) : RegimeInv s.commitPassed := by
  have hwaits : RegimeInv (s.setTables { s.tables.setVerified s.tables.walkedBank true with
      walk := .passed, swapPending := true }) := h.congr rfl rfl rfl rfl nofun
  unfold State.commitPassed
  simp only
  split
  · exact hwaits.takeSwap
  · exact hwaits

theorem State.adopt_regime (s : State) (b : BankName) : (s.adopt b).regime = { s.regime with
    attempts := min s.regime.attempts (s.tables.bank b).latched.crankAttemptsMax.toNat } := rfl

theorem State.adopt_cycle (s : State) (b : BankName) :
    (s.adopt b).split.cycle = s.split.cycle.map fun c => { c with remarked := true } := rfl

theorem RegimeInv.pinResetPassed {s : State} (h : RegimeInv s) : RegimeInv s.pinResetPassed := by
  unfold State.pinResetPassed
  simp only
  split
  · exact h.congr rfl rfl rfl rfl nofun
  · refine h.recounted (by rw [State.setTables_regime, State.adopt_regime]) (.inl ⟨rfl, rfl⟩) (by simp)
      (fun hs => ⟨by simpa using hs, fun hc => ?_⟩) fun hw => by simp [Walk.isPinReset] at hw
    rw [State.setTables_split, State.adopt_cycle, hc]
    rfl

/-- What the swap of a cycle start makes of the Regime Controller: its counts (R19, R20, R110). -/
theorem State.swapAtStart_regime (s : State) : ∃ a w u, a ≤ s.regime.attempts ∧
    (w = s.regime.want ∧ u = s.regime.unwant ∨ w = 0 ∧ u = 0) ∧
    s.swapAtStart.regime = { s.regime with attempts := a, want := w, unwant := u } := by
  unfold State.swapAtStart
  split
  · rcases s.takeSwap_cases with ⟨f, -, e⟩ | ⟨-, e⟩ <;> rw [e]
    · exact ⟨_, _, _, le_rfl, .inl ⟨rfl, rfl⟩, rfl⟩
    · exact ⟨_, 0, 0, Nat.min_le_left _ _, .inr ⟨rfl, rfl⟩, rfl⟩
  · exact ⟨_, _, _, le_rfl, .inl ⟨rfl, rfl⟩, rfl⟩

/-- No swap starts a walk. -/
theorem State.swapAtStart_isPinReset (s : State) (h : s.swapAtStart.tables.walk.isPinReset = true) :
    s.tables.walk.isPinReset = true := by
  unfold State.swapAtStart at h
  split at h
  · rcases s.takeSwap_cases with ⟨f, -, e⟩ | ⟨-, e⟩ <;> rw [e] at h
    · cases h
    · simpa using h
  · exact h

/-- A cycle start settles the regime, then may take a swap; the pin-reset walk keeps it in STANDBY (R99, R105, R18). -/
theorem RegimeInv.startCycle {s : State} (h : RegimeInv s) (hreset : s.resetApplied = none) (k : CycleKind) :
    RegimeInv (s.startCycle k) := by
  obtain ⟨x, hx, htables, hregime, -, hsplit, -⟩ := s.startCycle_spec k
  obtain ⟨a, w, u, ha, hdwell, hswapped⟩ :=
    State.swapAtStart_regime (s.setSplit { s.split with waiting := none }).settle
  have hsettled := (RegimeState.settle_steps (wp := s.tables.wp) s.settleInputs s.regime).timed (h.timed hreset)
  have hcounts : (s.startCycle k).regime = { s.regime.settle s.tables.wp s.settleInputs with
      attempts := a, want := w, unwant := u } := by rw [hregime, hx, hswapped]; rfl
  have hwant := hsettled.want
  have hunwant := hsettled.unwant
  have hone := hsettled.dwell
  have hd : w = (s.regime.settle s.tables.wp s.settleInputs).want ∧
      u = (s.regime.settle s.tables.wp s.settleInputs).unwant ∨ w = 0 ∧ u = 0 := hdwell
  refine .of_timed ?_ (by simpa using hreset) (fun hst => by rw [hsplit] at hst; cases hst) fun hp => ?_
  · rw [hcounts]
    exact { hsettled with
      want := by show w ≤ 255; omega
      unwant := by show u ≤ 65535; omega
      dwell := by show w = 0 ∨ u = 0; omega }
  · rw [htables, hx] at hp
    have hpin : s.tables.walk.isPinReset = true := by simpa using State.swapAtStart_isPinReset _ hp
    have hmay : s.settleInputs.mayLeaveStandby = false := by
      simp [State.settleInputs, State.mayLeaveStandby, hpin]
    rw [hcounts]
    exact (congrArg RegimeState.mode (RegimeState.settle_standby_stays (h.pinWalk hpin) hmay)).trans (h.pinWalk hpin)

theorem regimeInv_resetBlocks (s : State) (t : TableStore) (k : ResetKind) : RegimeInv (s.resetBlocks t k) := by
  constructor <;> simp [resetRegime, resetSplit]

@[simp] theorem TableStore.copyStep_walk (t : TableStore) : t.copyStep.walk = t.walk := by
  unfold TableStore.copyStep
  split
  · rfl
  · split
    · simp
    · rfl

@[simp] theorem TableStore.copyStep_wp (t : TableStore) : t.copyStep.wp = t.wp := by
  unfold TableStore.copyStep
  split
  · rfl
  · split
    · simp
    · rfl

@[simp] theorem TableStore.walkStep_wp (t : TableStore) : t.walkStep.wp = t.wp := by
  unfold TableStore.walkStep
  split
  · split
    · split <;> rfl
    · rfl
  all_goals rfl

@[simp] theorem TableStore.strike_wp (t : TableStore) (e : EntryRef) : (t.strike e).wp = t.wp := by
  rw [t.strike_frame e]

@[simp] theorem State.resetEntry_walk (s : State) (name : TableName) (i : Nat) :
    (s.resetEntry name i).tables.walk = s.tables.walk ∧ (s.resetEntry name i).tables.wp = s.tables.wp := by
  rcases name with tbl | ⟨_ | _ | _⟩
  case bank => simp [State.resetEntry, TableStore.putBank, TableStore.writeBank]
  case live.forward => unfold State.resetEntry; simp only; split <;> exact ⟨rfl, rfl⟩
  case live.watch => exact ⟨rfl, rfl⟩
  case live.faultMap => exact ⟨rfl, rfl⟩

/-- The changes an acceptance makes of the Regime Controller, none in STANDBY. -/
theorem State.handAcceptance_steps (s : State) (r : Role) :
    s.regime.Steps s.tables.wp (s.handAcceptance r).regime ∧
      (s.regime.mode = .standby → (s.handAcceptance r).regime.mode = .standby) := by
  have hregime := s.handAcceptance_regime r
  have stays (hm : s.regime.mode = .standby) := RegimeState.standby_stays (wp := s.tables.wp) hm
  cases r with
  | engine =>
    rw [hregime]
    exact ⟨RegimeState.engineReport_steps _ _ _ _, fun hm => by rw [(stays hm).2.1]; exact hm⟩
  | clutch =>
    rw [hregime]
    exact ⟨RegimeState.clutchReport_steps _ _, fun hm => by rw [(stays hm).2.2]; exact hm⟩
  | demand | battery | inverter | brake => rw [hregime]; exact ⟨.refl, id⟩

/-- A cycle completes: the dwell counts move, then the completion test is taken (R100). -/
theorem State.completeCycle_steps (s : State) (cyc : CycleInputs) :
    s.regime.Steps s.tables.wp (s.completeCycle cyc).regime ∧
      (s.regime.mode = .standby → (s.completeCycle cyc).regime.mode = .standby) := by
  rw [State.completeCycle_regime]
  refine ⟨.trans (RegimeState.countDwell_steps _ _) (RegimeState.completionTest_steps _ _), fun hm => ?_⟩
  have hcounted : (s.regime.countDwell (computeCycle s.tables s.split cyc).wanted).mode = .standby := by
    unfold RegimeState.countDwell
    split <;> exact hm
  rw [(RegimeState.standby_stays hcounted).1]
  exact hcounted

theorem State.Move.regimeInv {s t : State} (h : s.Move t) (hs : RegimeInv s) : RegimeInv t := by
  cases h with
  | powerOn | pin => exact regimeInv_resetBlocks _ _ _
  | resetEnd id rate hreset =>
    have hm := hs.standby hreset
    exact ⟨hs.crankTimer, hs.syncTimer, hs.clutchTimer, hs.retryTimer, hs.minRun, hs.want, hs.unwant, hs.dwell,
      by simp [hm], fun _ => hm, hs.first, hs.pinWalk⟩
  | walkTest => exact hs.congr rfl rfl rfl rfl s.tables.walkStep_isPinReset
  | commitPassed => exact hs.commitPassed
  | pinResetPassed => exact hs.pinResetPassed
  | upset e =>
    refine hs.congr rfl rfl rfl rfl fun hw => ?_
    rw [State.setTables_tables, s.tables.strike_frame e] at hw
    exact hw
  | copyCarry =>
    refine hs.congr rfl rfl rfl rfl fun hw => ?_
    rw [State.setTables_tables, TableStore.copyStep_walk] at hw
    exact hw
  | accepted r f hreset =>
    obtain ⟨hsteps, hstay⟩ := (s.storeFrame r f.data).handAcceptance_steps r
    simp only [State.storeFrame_keeps] at hsteps hstay
    refine hs.stepped hsteps hreset (by simpa using hreset) hstay (fun hst => ?_) fun hw => by simpa using hw
    rw [State.handAcceptance_split] at hst ⊢
    split at hst <;> exact ⟨by simpa using hst, fun hc => by split <;> simpa using hc⟩
  | started k hreset => exact hs.startCycle hreset k
  | completed cyc hreset hcyc =>
    obtain ⟨hsteps, hstay⟩ := s.completeCycle_steps cyc
    refine hs.stepped hsteps hreset (by simpa using hreset) hstay (fun hst => ?_)
      fun hw => by simpa [State.completeCycle] using hw
    rw [State.completeCycle_split] at hst ⊢
    exact ⟨hst, fun _ => rfl⟩
  | crankTimer hreset hrun =>
    refine hs.stepped ((hs.timed hreset).crankExpiry_steps hrun) hreset (by simpa using hreset) (fun hm => ?_)
      (fun hst => ⟨by simpa using hst, by simp⟩) (by simp)
    rw [State.crankExpiry_regime, hm]; exact hm
  | syncTimer hreset hrun =>
    have hm := (hs.timed hreset).syncTimer.1 hrun
    refine hs.stepped (wp := s.tables.wp) ?_ hreset hreset (fun hst => by rw [hst] at hm; cases hm)
      (fun hst => ⟨hst, id⟩) id
    rw [if_pos hm]
    exact RegimeState.enterToward_steps (r := s.regime) _ (by decide) (by simp [hm])
  | clutchTimer hreset =>
    exact hs.stepped (wp := s.tables.wp) (.single .clutchStopped) hreset hreset id (fun hst => ⟨hst, id⟩) id
  | retryTimer hreset =>
    exact hs.stepped (wp := s.tables.wp) (.single .retryStopped) hreset hreset id (fun hst => ⟨hst, id⟩) id
  | minRun period hreset hrun =>
    exact hs.stepped (wp := s.tables.wp) (.single (.minRunExpired period hrun)) hreset hreset id
      (fun hst => ⟨hst, id⟩) id
  | attemptsCleared hreset =>
    exact hs.stepped (wp := s.tables.wp) (.single (.lowered 0 (Nat.zero_le _))) hreset hreset id
      (fun hst => ⟨hst, id⟩) id
  | wrote _ name i field v _ _ hw =>
    have hwalk : t.tables.walk = s.tables.walk := by
      rcases State.writeField_cases hw with ⟨_, _, _, _, rfl⟩ | ⟨_, _, _, _, rfl⟩ | ⟨_, _, _, _, rfl⟩ | ⟨_, _, _, rfl⟩ |
        ⟨_, _, _, rfl⟩ <;> simp [TableStore.putBank, TableStore.writeBank]
    rw [State.writeField_frame hw]
    exact hs.congr rfl rfl rfl rfl fun h => by rwa [hwalk] at h
  | copyBegun => exact hs.congr rfl rfl rfl rfl fun hw => by simpa [State.startCopy] using hw
  | commitBegun => exact hs.congr rfl rfl rfl rfl nofun
  | _ => exact hs.congr (by simp) (by simp) (by simp) (by simp) fun hw => by simpa using hw

/-! ### AttemptsInv -/

theorem AttemptsInv.counted {s : State} (h : AttemptsInv s) : s.regime.Counted s.tables.wp :=
  ⟨h.attempts, h.inCrank, h.matches20, h.inSync⟩

/-- The counts under a new set of working parameters that a latch takes (R20, R110). -/
theorem RegimeState.Counted.adopted {wp wp' : WorkingParams} {r : RegimeState} (h : r.Counted wp)
    (hwp' : wp'.Valid) (hcrank : r.mode.regime ≠ .crank) (hsync : r.mode.regime ≠ .sync) {w u : Nat} :
    RegimeState.Counted wp'
      { r with attempts := min r.attempts wp'.crankAttemptsMax.toNat, want := w, unwant := u } := by
  have hmax := hwp'.crankAttemptsMax_range
  exact ⟨by simp only; omega, fun hc => absurd hc hcrank, h.matches20, fun hc => absurd hc hsync⟩

/-- The counts stay in their bounds under a swap in a regime that is neither CRANK nor SYNC. -/
theorem State.takeSwap_counted {s : State} (h : s.regime.Counted s.tables.wp) (hwp : s.takeSwap.tables.wp.Valid)
    (hcrank : s.regime.mode.regime ≠ .crank) (hsync : s.regime.mode.regime ≠ .sync) :
    s.takeSwap.regime.Counted s.takeSwap.tables.wp := by
  rcases s.takeSwap_cases with ⟨f, -, e⟩ | ⟨-, e⟩ <;> rw [e] at hwp ⊢
  · simpa [TableStore.latchFailed] using h
  · exact h.adopted hwp hcrank hsync

theorem State.commitPassed_counted {s : State} (h : s.regime.Counted s.tables.wp)
    (hwp : s.commitPassed.tables.wp.Valid) : s.commitPassed.regime.Counted s.commitPassed.tables.wp := by
  unfold State.commitPassed at hwp ⊢
  simp only at hwp ⊢
  split at hwp
  · next hm =>
    rw [if_pos hm]
    exact State.takeSwap_counted (by simpa using h) hwp
      (fun hc => by rcases hm with e | e <;> rw [e] at hc <;> cases hc)
      (fun hc => by rcases hm with e | e <;> rw [e] at hc <;> cases hc)
  · next hm =>
    rw [if_neg hm]
    simpa using h

/-- The completion of the pin-reset walk: its latch is not made, or the active bank is adopted and verified (R25). -/
theorem State.pinResetPassed_cases (s : State) :
    (∃ f, (s.tables.bank s.tables.walkedBank).latchFailure = some f ∧
      s.pinResetPassed = s.setTables (s.tables.latchFailed s.tables.walkedBank f)) ∨
    ((s.tables.bank s.tables.walkedBank).latchFailure = none ∧ s.pinResetPassed =
      (s.adopt s.tables.walkedBank).setTables
        { ((s.adopt s.tables.walkedBank).tables.setVerified s.tables.walkedBank true) with walk := .passed }) := by
  unfold State.pinResetPassed
  simp only
  cases hlatch : (s.tables.bank s.tables.walkedBank).latchFailure with
  | some f => exact .inl ⟨f, rfl, rfl⟩
  | none => exact .inr ⟨rfl, rfl⟩

theorem State.adopt_wp (s : State) (b : BankName) : (s.adopt b).tables.wp = (s.tables.bank b).latched := rfl

theorem State.pinResetPassed_counted {s : State} (h : s.regime.Counted s.tables.wp)
    (hwp : s.pinResetPassed.tables.wp.Valid) (hm : s.regime.mode = .standby) :
    s.pinResetPassed.regime.Counted s.pinResetPassed.tables.wp := by
  rcases s.pinResetPassed_cases with ⟨f, -, e⟩ | ⟨-, e⟩ <;> rw [e] at hwp ⊢
  · simpa [TableStore.latchFailed] using h
  · simp only [State.setTables_tables, TableStore.setVerified_wp, State.adopt_wp] at hwp ⊢
    exact h.adopted (w := s.regime.want) (u := s.regime.unwant) hwp (by simp [hm, Mode.regime])
      (by simp [hm, Mode.regime])

/-- A cycle start settles under the parameters that stand, and takes a swap in no regime whose counts it would
touch (R18). -/
theorem State.startCycle_counted {s : State} (h : s.regime.Counted s.tables.wp) (hwp : s.tables.wp.Valid)
    (k : CycleKind) (hwp' : (s.startCycle k).tables.wp.Valid) :
    (s.startCycle k).regime.Counted (s.startCycle k).tables.wp := by
  obtain ⟨a, ha, htables, hregime, -⟩ := s.startCycle_spec k
  have hsettled : (s.setSplit { s.split with waiting := none }).settle.regime.Counted s.tables.wp :=
    (RegimeState.settle_steps _ s.regime).counted hwp h
  rw [htables] at hwp' ⊢
  rw [hregime]
  rw [ha] at hwp' ⊢
  unfold State.swapAtStart at hwp' ⊢
  split
  · next hswap =>
    rw [if_pos hswap] at hwp'
    refine State.takeSwap_counted hsettled hwp' (fun hc => ?_) fun hc => ?_
    · have := hswap.2; rw [hc] at this; cases this
    · have := hswap.2; rw [hc] at this; cases this
  · exact hsettled

theorem counted_resetRegime {r : RegimeState} {applied : Bool} (hr : r = resetRegime applied) {wp : WorkingParams}
    (hwp : wp.Valid) : r.Counted wp := by
  have hmax := hwp.crankAttemptsMax_range
  rw [hr]
  exact ⟨by simp only [resetRegime]; omega, nofun, Nat.zero_le _, nofun⟩

theorem State.Move.regimeCounted {s t : State} (h : s.Move t) (hs : s.regime.Counted s.tables.wp) (hr : RegimeInv s)
    (hwp : s.tables.wp.Valid) (hwp' : t.tables.wp.Valid) : t.regime.Counted t.tables.wp := by
  have stepped {u : State} (htables : u.tables.wp = s.tables.wp) (hsteps : s.regime.Steps s.tables.wp u.regime) :
      u.regime.Counted u.tables.wp := by rw [htables]; exact hsteps.counted hwp hs
  cases h with
  | powerOn | pin => exact counted_resetRegime (applied := true) (by simp) hwp'
  | resetEnd => exact { hs with }
  | commitPassed => exact State.commitPassed_counted hs hwp'
  | pinResetPassed pos seen hw => exact State.pinResetPassed_counted hs hwp' (hr.pinWalk (by rw [hw]; rfl))
  | accepted r f =>
    have hsteps := ((s.storeFrame r f.data).handAcceptance_steps r).1
    simp only [State.storeFrame_keeps] at hsteps
    exact stepped (by simp) hsteps
  | started k => exact State.startCycle_counted hs hwp k hwp'
  | completed cyc => exact stepped (by simp [State.completeCycle]) (s.completeCycle_steps cyc).1
  | crankTimer hreset hrun => exact stepped (by simp) ((hr.timed hreset).crankExpiry_steps hrun)
  | syncTimer hreset hrun =>
    have hm := (hr.timed hreset).syncTimer.1 hrun
    refine stepped rfl ?_
    rw [if_pos hm]
    exact RegimeState.enterToward_steps (r := s.regime) _ (by decide) (by simp [hm])
  | clutchTimer => exact stepped rfl (.single .clutchStopped)
  | retryTimer => exact stepped rfl (.single .retryStopped)
  | minRun period _ hrun => exact stepped rfl (.single (.minRunExpired period hrun))
  | attemptsCleared => exact stepped rfl (.single (.lowered 0 (Nat.zero_le _)))
  | wrote _ name i field v _ _ hw =>
    refine stepped ?_ (by rw [State.writeField_frame hw])
    rcases State.writeField_cases hw with ⟨_, _, _, _, rfl⟩ | ⟨_, _, _, _, rfl⟩ | ⟨_, _, _, _, rfl⟩ | ⟨_, _, _, rfl⟩ |
      ⟨_, _, _, rfl⟩ <;> simp [TableStore.putBank, TableStore.writeBank]
  | copyBegun => exact stepped (by simp [State.startCopy]) .refl
  | commitBegun => exact stepped rfl .refl
  | _ => exact stepped (by simp) (by simpa using Relation.ReflTransGen.refl)

theorem State.Move.attemptsInv {s t : State} (h : s.Move t) (hs : AttemptsInv s) : AttemptsInv t := by
  have hparams := h.paramsInv hs.params
  obtain ⟨attempts, inCrank, matches20, inSync⟩ :=
    h.regimeCounted hs.counted hs.regime hs.params.valid hparams.valid
  exact ⟨hparams, h.regimeInv hs.regime, attempts, inCrank, matches20, inSync⟩

/-- Settles O40: every change of the Regime Controller is a chain that keeps its timers and counts. -/
theorem stepKeepsRegimeConsistent : Obligations.StepKeepsRegimeConsistent :=
  ⟨fun _ _ hs => step_keeps (fun _ _ h => h.congr rfl rfl rfl rfl id) (fun _ _ => State.Move.regimeInv) hs,
    fun _ _ hs => step_keeps (fun _ _ h => ⟨h.params.congr id rfl, h.regime.congr rfl rfl rfl rfl id, h.attempts,
      h.inCrank, h.matches20, h.inSync⟩) (fun _ _ => State.Move.attemptsInv) hs⟩

end Sys2Proof.Machine
end

section
/-! PROOFS. The queue, the commands that are no event, and the two resets. -/

namespace Sys2Proof.Machine

/-- Settles O1. -/
theorem stepTakesTheFrontCommand : Obligations.StepTakesTheFrontCommand :=
  fun c rest s hs => step_cons c rest s hs

/-! ### Completion and non-events -/

theorem State.Move.pending_eq {s t : State} (h : s.Move t) : t.pending = s.pending := by
  cases h with
  | wrote _ name i field v _ _ hw => rw [State.writeField_frame hw]
  | _ => simp

theorem exec_pending {c : Instr} {s t : State} (h : exec c s = .next t) : t.pending = s.pending := by
  have kept {u : State} (hmoves : s.Moves u) : u.pending = s.pending := by
    induction hmoves with
    | refl => rfl
    | tail _ hmove ih => exact hmove.pending_eq.trans ih
  exact kept (exec_moves h)

theorem exec_completes (c : Instr) (s : State) : ∃ t, exec c s = .next t := by
  cases c <;> exact ⟨_, rfl⟩

/-- While a reset is applied a gated command changes nothing. -/
theorem next_unlessReset_applied {s : State} (h : s.resetApplied ≠ none) (t : State) :
    (.next (s.unlessReset t) : Host.Outcome State Fault Refusal) = .next s := by
  rw [s.unlessReset_some t h]

/-- A gated command that leaves the state as it is. -/
theorem next_unlessReset_same {s t : State} (h : t = s) :
    (.next (s.unlessReset t) : Host.Outcome State Fault Refusal) = .next s := by
  rcases s.unlessReset_cases t with ⟨-, e⟩ | ⟨-, e⟩ <;> rw [e]
  rw [h]

/-- The expiry of a timer that does not run. -/
theorem next_unlessReset_stopped {s : State} {x : Timer} (h : x = .stopped) (t : State) :
    (.next (s.unlessReset (if x.isRunning then t else s)) : Host.Outcome State Fault Refusal) = .next s :=
  next_unlessReset_same (if_neg (by simp [h]))

theorem exec_of_resetApplied (c : Instr) {s : State} (h : s.resetApplied ≠ none) : match c with
    | .powerOnReset | .resetEnd _ _ | .upset _ | .walkEntryTest | .walkCompletion => True
    | _ => exec c s = .next s := by
  cases c with
  | powerOnReset | resetEnd | upset | walkEntryTest | walkCompletion => trivial
  | pinReset =>
    obtain ⟨k, hk⟩ := Option.ne_none_iff_exists'.1 h
    simp only [exec, execPinReset, hk]
  | _ => exact next_unlessReset_applied h _

/-- An entry that does not exist is not struck. -/
theorem TableStore.strike_of_not_wf (t : TableStore) {e : EntryRef} (h : e.wf = false) : t.strike e = t := by
  have outside {α : Type} {n : Nat} (v : Vector α n) {i : Nat} (x : α) (hi : n ≤ i) : v.setIfInBounds i x = v := by
    ext j hj
    rw [Vector.getElem_setIfInBounds, if_neg (by omega)]
  rcases e with ⟨b, tbl, i⟩ | ⟨_ | _ | _, i⟩ <;> simp only [EntryRef.wf, decide_eq_false_iff_not] at h
  case bank => exact if_neg h
  case live.forward =>
    have hi : 48 ≤ i := Nat.not_lt.1 h
    simp only [TableStore.strike]
    rw [if_neg (by omega), outside _ _ (by omega)]
  case live.watch =>
    have hi : 16 ≤ i := Nat.not_lt.1 h
    simp only [TableStore.strike]
    rw [outside _ _ hi]
  case live.faultMap =>
    have hi : 12 ≤ i := Nat.not_lt.1 h
    simp only [TableStore.strike]
    rw [outside _ _ hi]

/-- With no walk in hand, or no entry left for it, a walk step changes nothing. -/
theorem TableStore.walkStep_of_none_left {t : TableStore} (h : ∀ k pos seen, t.walk = .running k pos seen → 559 ≤ pos) :
    t.walkStep = t := by
  unfold TableStore.walkStep
  split
  · next hw => exact if_neg (Nat.not_lt.2 (h _ _ _ hw))
  all_goals rfl

theorem TableStore.copyStep_of_none_left {t : TableStore} (h : ∀ p, t.copy = some p → 559 ≤ p) : t.copyStep = t := by
  unfold TableStore.copyStep
  split
  · rfl
  · next hc => exact if_neg (Nat.not_lt.2 (h _ hc))

/-- Settles O2: a gated command under a reset, then each row at a state where it is no event. -/
theorem everyCommandCompletesAndNonEventsChangeNothing :
    Obligations.EveryCommandCompletesAndNonEventsChangeNothing := by
  refine ⟨fun c s => ?completes, fun c s h => exec_of_resetApplied c h, ?nonEvent, fun _ _ _ _ _ _ _ => rfl,
    fun _ _ _ _ => rfl⟩
  case completes =>
    obtain ⟨t, ht⟩ := exec_completes c s
    exact ⟨t, ht, exec_pending ht⟩
  case nonEvent =>
    intro c s noWalkEntry noWalk noEvent h
    cases c with
    | resetEnd id rate =>
      have hr : s.resetApplied = none := h
      simp only [exec, execResetEnd, hr]
    | upset e => exact congrArg Host.Outcome.next (congrArg s.setTables (s.tables.strike_of_not_wf h))
    | frameReceived p f =>
      have hf : 8 < f.data.length := h
      exact next_unlessReset_same (if_neg fun hr => Nat.not_le.2 hf hr.2)
    | deadlineExpiry r => exact next_unlessReset_stopped h _
    | holdExpiry r => exact next_unlessReset_stopped h _
    | fillInExpiry => exact next_unlessReset_stopped h _
    | splitCycleStart =>
      have hw : s.split.cycle ≠ none ∨ s.split.waiting = none := h
      refine next_unlessReset_same ?_
      split
      · next hc hk => rcases hw with hw | hw <;> simp_all
      · rfl
      · rfl
    | splitCycleCompletion =>
      have hc : s.split.cycle = none := h
      exact next_unlessReset_same (by simp only [hc])
    | crankTimerExpiry => exact next_unlessReset_stopped h _
    | syncTimerExpiry => exact next_unlessReset_stopped h _
    | clutchTimerExpiry => exact next_unlessReset_stopped h _
    | retryTimerExpiry => exact next_unlessReset_stopped h _
    | minRunExpiry =>
      refine next_unlessReset_same ?_
      split
      · next period hr => exact absurd hr (h period)
      · rfl
      · rfl
    | walkEntryTest => exact congrArg Host.Outcome.next (congrArg s.setTables (TableStore.walkStep_of_none_left h))
    | walkCompletion =>
      simp only [exec, execWalkCompletion]
      split
      · next hw => exact absurd hw (h _ _ _)
      all_goals rfl
    | copyEntryCarry => exact next_unlessReset_same (congrArg s.setTables (TableStore.copyStep_of_none_left h))
    | copyCompletion =>
      have hc : s.tables.copy = none := h
      exact next_unlessReset_same (by simp only [hc])
    | transmitStart p =>
      have ha : s.arbiterChoice p = none := by
        cases hc : s.arbiterChoice p with
        | none => rfl
        | some a => exact absurd (State.arbiterChoice_eq_some hc).2.1 h
      exact next_unlessReset_same (by simp only [ha])
    | transmissionCompletion p | arbitrationLost p | transmitError p _ =>
      have ha : (s.ports.port.get p).attempt = none := h
      exact next_unlessReset_same (by simp only [ha])
    | elevenRecessiveBitsSeen p => exact next_unlessReset_same (if_neg h)
    | busOffRecovery p =>
      refine next_unlessReset_same ?_
      split
      · exact if_neg h
      · rfl
    | editWindowExpiry q => exact next_unlessReset_stopped h _
    | _ => exact absurd h id

end Sys2Proof.Machine
end

section
/-! PROOFS. The tables and the blocks after both resets, the completion of the pin-reset walk, and an upset. -/

namespace Sys2Proof.Machine

/-! ### POWER_ON reset (R3, R24) -/

theorem powerOnTables_forward : ∀ i : Fin 47, powerOnTables.forward[i] = .passing
    (match i.val with
    | 0 => ⟨true, .portU, 0x110, .consume, some .demand⟩
    | 1 => ⟨true, .portU, 0x180, .consumePass, some .battery⟩
    | 2 => ⟨true, .portU, 0x1A0, .consume, some .brake⟩
    | 3 => ⟨true, .portD, 0x210, .consumePass, some .inverter⟩
    | 4 => ⟨true, .portD, 0x220, .consumePass, some .engine⟩
    | 5 => ⟨true, .portD, 0x230, .consume, some .clutch⟩
    | _ => ⟨false, .portU, 0, .pass, none⟩) := by decide

theorem powerOnTables_faultMap : ∀ i : Fin 12, powerOnTables.faultMap[i] = .passing (tabledFaultEntry i) := by decide

theorem powerOnTables_wp_at : ∀ p, p < 54 → powerOnTables.wp.at p = (paramRows.getD p ⟨0, 0, 0⟩).dflt := by decide

theorem powerOnTables_speedBp (i : Nat) : powerOnTables.wp.speedBp i = if i = 1 then 7000 else 0 := by
  have hall : ∀ i, i < 12 → powerOnTables.wp.speedBp i = if i = 1 then 7000 else 0 := by decide
  rcases Nat.lt_or_ge i 12 with hi | hi
  · exact hall i hi
  · rw [WorkingParams.speedBp, if_neg (Nat.not_lt.2 hi), if_neg (by omega)]

theorem powerOnTables_demandBp (j : Nat) : powerOnTables.wp.demandBp j = if j = 1 then 600 else 0 := by
  have hall : ∀ j, j < 10 → powerOnTables.wp.demandBp j = if j = 1 then 600 else 0 := by decide
  rcases Nat.lt_or_ge j 10 with hj | hj
  · exact hall j hj
  · rw [WorkingParams.demandBp, if_neg (Nat.not_lt.2 hj), if_neg (by omega)]

theorem powerOnTables_entryAt (b : BankName) (p : Nat) : (powerOnTables.bank b).entryAt p = .failing := by
  have hbank : powerOnTables.bank b = undeterminedBank := by cases b <;> rfl
  rw [hbank]
  rcases Nat.lt_or_ge p 559 with hp | hp
  · simp [Bank.entryAt, undeterminedBank, hp]
  · exact Bank.entryAt_of_le _ _ hp

theorem WorkingParams.breakpoints_at (w : WorkingParams) :
    (∀ i, i < 12 → w.speedBp i = w.at (54 + i)) ∧ (∀ j, j < 10 → w.demandBp j = w.at (66 + j)) ∧
      w.t1 = w.at 76 ∧ w.t2 = w.at 77 ∧ w.t3 = w.at 78 :=
  ⟨fun _ hi => if_pos hi, fun _ hj => if_pos hj, rfl, rfl, rfl⟩

/-- Settles O3: the rows of R3 and their places by computation, the tables from the lemmas above. -/
theorem powerOnResetTables : Obligations.PowerOnResetTables := by
  refine ⟨rfl, fun _ => rfl, fun w r => by cases r <;> rfl, WorkingParams.breakpoints_at, fun s => ⟨_, rfl, ?_⟩⟩
  rw [(State.resetBlocks_blocks s powerOnTables .powerOn).1]
  exact ⟨fun b p _ => powerOnTables_entryAt b p, powerOnTables_forward, rfl,
    fun i => by simp [powerOnTables, clearedWatchEntry], powerOnTables_faultMap, rfl, rfl, rfl, rfl, rfl, rfl, rfl,
    powerOnTables_wp_at, powerOnTables_speedBp, powerOnTables_demandBp, rfl, rfl, rfl, rfl, rfl, rfl, rfl, rfl⟩

/-! ### PIN reset and the completion of its walk (R25) -/

/-- The completion of a walk that has tested all 559 entries. -/
theorem exec_walkCompletion_passed {s : State} {k : WalkKind} {seen : List Int}
    (h : s.tables.walk = .running k 559 seen) : exec .walkCompletion s = .next
      (match k with
      | .commit => s.commitPassed
      | .pinReset => s.pinResetPassed) := by
  have hdone : s.setTables (TableStore.walkOn 559 s.tables) = s := by rw [TableStore.walkOn_done _ _ _ _ h]; rfl
  simp only [exec, execWalkCompletion, h, hdone]
  cases k <;> rfl

theorem Bank.latched_of_passing {x : Bank} {p : Nat} (hp : p < 79) {f : BankFields} (hf : x.entryAt p = .passing f) :
    x.latched.at p = f.f1 := by
  rw [x.latched_at p hp, hf]
  rfl

/-- The STATIC record with its saturations said through max and min (R48, R50). -/
theorem staticRecord_eq (wp : WorkingParams) : staticRecord wp =
    ⟨some (max 0 (min 400 wp.engHiCap)), some (max (-400) (min 0 wp.engLoCap)),
      some (max 0 (min 400 wp.motHiCap)), some (max (-400) (min 0 wp.motLoCap))⟩ := by
  simp only [staticRecord, satHi_eq, satLo_eq]

/-- The completion of the pin-reset walk with the latch made (R20, R25). -/
theorem State.pinResetPassed_made (s : State)
    (h : ∀ p, p < 79 → (s.tables.bank s.tables.walkedBank).entryAt p ≠ .failing) :
    let wp := (s.tables.bank s.tables.walkedBank).latched
    s.pinResetPassed = { s with
      tables := { (s.tables.setVerified s.tables.walkedBank true) with walk := .passed, wp := wp }
      limits := { s.limits with static := staticRecord wp }
      regime := { s.regime with attempts := min s.regime.attempts wp.crankAttemptsMax.toNat }
      split := { s.split with
        recompute := true, cycle := s.split.cycle.map fun c => { c with remarked := true } } } := by
  have hl := Bank.latchFailure_none _ h
  unfold State.pinResetPassed
  generalize s.tables.walkedBank = b at hl ⊢
  simp only [hl]
  generalize hw : (s.tables.bank b).latched = w
  unfold State.adopt
  simp only [hw]
  cases b <;> rfl

/-- Settles O4: the tables by computation, then the latch of the active bank as it is made. -/
theorem pinResetKeepsContents : Obligations.PinResetKeepsContents := by
  refine fun s => ⟨fun hreset => ?pin, fun hreset => exec_of_resetApplied .pinReset hreset,
    fun seen hwalk hwalked hpass => ?completion⟩
  case pin =>
    refine ⟨s.resetBlocks (pinResetTables s.tables) .pin, by simp only [exec, execPinReset, hreset], rfl, fun i => ?_,
      rfl, rfl, rfl, rfl⟩
    simp only [State.resetBlocks_blocks, resetWatch, Fin.getElem_fin, Vector.getElem_ofFn, pinResetTables]
    cases s.tables.watch[i.val] <;> rfl
  case completion =>
    refine ⟨_, exec_walkCompletion_passed hwalk, ?_⟩
    have hmade := s.pinResetPassed_made (hwalked.symm ▸ hpass)
    have latched (p : Nat) (f : BankFields) (hp : p < 79) :=
      Bank.latched_of_passing (x := s.tables.bank s.tables.selector) hp (f := f)
    rw [hwalked] at hmade
    generalize (s.tables.bank s.tables.selector).latched = wp at hmade latched
    generalize s.pinResetPassed = t at hmade ⊢
    subst hmade
    refine ⟨?_, ?_, ?_, latched, staticRecord_eq wp⟩
    all_goals cases s.tables.selector <;> rfl

/-! ### What both resets leave -/

/-- Both reset rows that take effect leave the reset blocks, the watches by the entries kept. -/
theorem exec_reset {c : Instr} {s : State} (hc : c = .powerOnReset ∨ (c = .pinReset ∧ s.resetApplied = none)) :
    ∃ t k, exec c s = .next (s.resetBlocks t k) ∧
      (∀ i : Fin 16, resetWatchCell t.watch[i] = (if c = .powerOnReset then ⟨.disabled, false⟩
        else match s.tables.watch[i] with
          | .passing e => ⟨if e.enable then .waiting else .disabled, false⟩
          | .failing => ⟨.disabled, false⟩)) ∧ k = if c = .powerOnReset then .powerOn else .pin := by
  rcases hc with rfl | ⟨rfl, hreset⟩
  · exact ⟨powerOnTables, .powerOn, rfl, fun i => by simp [powerOnTables, clearedWatchEntry, resetWatchCell], rfl⟩
  · refine ⟨pinResetTables s.tables, .pin, by simp only [exec, execPinReset, hreset], fun i => ?_, rfl⟩
    rw [if_neg nofun]
    show resetWatchCell s.tables.watch[i] = _
    cases s.tables.watch[i] <;> rfl

/-- Settles O5: the reset values block by block. -/
theorem bothResetsClearTheBlocks : Obligations.BothResetsClearTheBlocks := by
  refine ⟨fun c s hc => ?start, fun id rate s => ⟨fun h => ?ends, fun h => ?noReset⟩⟩
  case ends =>
    obtain ⟨k, hk⟩ := Option.ne_none_iff_exists'.1 h
    simp only [exec, execResetEnd, hk]
  case noReset => simp only [exec, execResetEnd, h]
  case start =>
    obtain ⟨t, k, hexec, hcells, hk⟩ := exec_reset hc
    refine ⟨_, hexec, ?_⟩
    simp only [State.resetBlocks_blocks, hk]
    refine ⟨fun r => by cases r <;> rfl, rfl, rfl, rfl, rfl, rfl, rfl, rfl, rfl, rfl, rfl, fun i => ?_, rfl, rfl,
      fun i => ?_, fun n => by cases n <;> rfl, fun k => ?_, fun p => ?_, fun q => by cases q <;> rfl, trivial, trivial,
      trivial⟩
    · simp [resetFaults]
    · simp only [resetWatch, Fin.getElem_fin, Vector.getElem_ofFn]
      exact hcells i
    · cases k with
      | notice => rfl
      | slot n => cases n <;> rfl
    · cases p <;> exact ⟨rfl, rfl⟩

/-! ### The reset state (log entry 2) -/

/-- The reset state is the one that the end of a POWER_ON reset leaves. -/
theorem State.Move.reset : State.Move (State.reset.resetBlocks powerOnTables .powerOn) State.reset :=
  .resetEnd _ 0 false nofun

theorem resetRegime_eq : State.reset.regime = resetRegime false := rfl

theorem attemptsInv_reset (hparams : ParamsInv State.reset) (hregime : RegimeInv State.reset) :
    AttemptsInv State.reset := by
  obtain ⟨attempts, inCrank, matches20, inSync⟩ := counted_resetRegime resetRegime_eq hparams.valid
  exact ⟨hparams, hregime, attempts, inCrank, matches20, inSync⟩

theorem inStep_reset : resetIntake.InStep := ⟨fun r => by cases r <;> constructor <;> decide, by decide⟩

theorem holdsInv_reset : HoldsInv State.reset :=
  ⟨fun q => by cases q <;> rfl, fun h hh => by simp [State.reset, resetRequester] at hh⟩

theorem bandInv_reset : BandInv State.reset := by
  constructor <;> simp [State.reset, resetSplit, zeroRecord]

theorem watchEntriesInv_reset : WatchEntriesInv State.reset :=
  (watchEntriesInv_iff _).2 fun i e he => by
    have : e = clearedWatchEntry := by
      simpa [State.reset, powerOnTables, eq_comm] using he
    rw [this]
    exact clearedWatchEntry_inRange

/-- Settles O6: the standing properties that the reset blocks have are kept by the end of the reset; the others are
read off the reset values. -/
theorem resetStateMeetsTheInvariants : Obligations.ResetStateMeetsTheInvariants := by
  have hmove := State.Move.reset
  have hparams := hmove.paramsInv (paramsInv_resetBlocks _ _ (.of_quiet defaultWorking_valid rfl rfl))
  have hregime := hmove.regimeInv (regimeInv_resetBlocks _ _ _)
  have hports := hmove.portsInv (portsInv_resetBlocks _ _ _)
  have hfaults := hmove.faultsInv (faultsInv_resetBlocks _ _ _) (portsInv_resetBlocks _ _ _)
    ((streamsInv_iff _).2 inStep_reset)
  refine ⟨fun s t u hstart hend => ?first, (streamsInv_iff _).2 inStep_reset, hfaults, hregime, hparams,
    attemptsInv_reset hparams hregime, forwardInv_default rfl, watchEntriesInv_reset, hports,
    holdsInv_reset, bandInv_reset, ⟨limitsInv_reset.1, limitsInv_reset.2, fun c hc => ?cycle⟩, storedInRange_reset⟩
  case first =>
    cases hstart
    cases hend
    rfl
  case cycle => simp [State.reset, resetSplit] at hc

/-! ### An upset (R7) -/

theorem Vector.getElem_setIfInBounds_fin {α : Type} {n : Nat} (v : Vector α n) (i : Nat) (x : α) (j : Fin n) :
    (v.setIfInBounds i x)[j] = if i = j.val then x else v[j] := by
  simp only [Fin.getElem_fin, Vector.getElem_setIfInBounds]

/-- The entries of both banks after a write of one entry of one of them. -/
theorem TableStore.entryAt_writeBank (t : TableStore) (b' : BankName) (tbl : BankTable) (i : Nat)
    (e : Checked BankFields) (b : BankName) {p : Nat} (hp : p < 559) :
    ((t.writeBank b' tbl i e).bank b).entryAt p =
      if b = b' ∧ p = tbl.base + i then e else (t.bank b).entryAt p := by
  unfold TableStore.writeBank Bank.write
  rw [TableStore.bank_setBank]
  by_cases hb : b = b'
  · subst hb
    simp only [if_true, true_and, Bank.entryAt_setAt _ _ _ _ hp]
  · simp only [hb, if_false, false_and]

/-- Settles O7: the struck entry is looked up in its table, and every other table stands. -/
theorem upsetStrikesOneEntry : Obligations.UpsetStrikesOneEntry := by
  refine fun e s hwf => ⟨_, rfl, rfl, s.tables.strike_frame e, ?_⟩
  rcases e with ⟨b', tbl, i⟩ | ⟨l, i⟩
  case bank =>
    have hi : i < tbl.size := by simpa [EntryRef.wf] using hwf
    have hstrike : s.tables.strike (.bank b' tbl i) = s.tables.writeBank b' tbl i .failing := if_pos hi
    simp only [State.setTables_tables, hstrike, reduceCtorEq, if_false]
    exact ⟨fun b p hp => s.tables.entryAt_writeBank b' tbl i .failing b hp, by simp [TableStore.writeBank]⟩
  case live =>
    have hi : i < l.size := by simpa [EntryRef.wf] using hwf
    have hbanks (b : BankName) : ((s.tables.strike (.live l i)).bank b) = s.tables.bank b := by
      rw [s.tables.strike_frame]
      cases b <;> cases l <;> simp only [TableStore.strike, TableStore.bank] <;> split <;> rfl
    refine ⟨fun b p _ => congrArg (·.entryAt p) (hbanks b), ?_⟩
    cases l with
    | watch | faultMap =>
      simp only [State.setTables_tables, TableStore.strike, Vector.getElem_setIfInBounds_fin, EntryRef.live.injEq,
        reduceCtorEq, false_and, true_and, if_false, implies_true, and_self]
    | forward =>
      by_cases h47 : i = 47
      · subst h47
        simp [TableStore.strike]
        omega
      · simp [TableStore.strike, h47, Vector.getElem_setIfInBounds]

end Sys2Proof.Machine
end

section
/-! PROOFS. The verify walk as a whole: its next entry, what it passes, its completion, and the latch that fails. -/

namespace Sys2Proof.Machine

/-! ### The next entry (R12) -/

/-- Settles O8: the walk order by the bounds of its tables, the outcome by the first test that fails. -/
theorem walkEntryTested : Obligations.WalkEntryTested := by
  refine ⟨fun pos _ => rfl, tableAt_base_add, fun s k pos seen hw hpos => ⟨_, rfl, ?_⟩⟩
  have hstep := TableStore.walkStep_cases hw hpos
  have hends {why : WalkReason} (hwhy : walkReason (s.tables.bank s.tables.walkedBank) pos seen = some why) :
      s.tables.walkStep.walk = .failed ⟨(tableAt pos).1, (tableAt pos).2, why⟩ := by
    rcases hstep with ⟨why', hr, e⟩ | ⟨f, hr, -, -⟩ <;> rw [hwhy] at hr
    · rw [e, Option.some.inj hr]
    · cases hr
  have hframe : s.tables.walkStep = { s.tables with walk := s.tables.walkStep.walk } := by
    rcases hstep with ⟨_, -, e⟩ | ⟨_, -, -, e⟩ <;> rw [e]
  refine ⟨congrArg s.setTables hframe, ?_⟩
  rcases walkReason_cases (x := s.tables.bank s.tables.walkedBank) hpos seen with ⟨hx, e⟩ | ⟨f, hx, h⟩
  · simp only [hx]
    exact hends e
  · simp only [hx]
    show (¬FieldsInRange pos f → _) ∧ (FieldsInRange pos f → ¬Ascends seen pos f.f1 → _) ∧
      (FieldsInRange pos f → Ascends seen pos f.f1 → ¬Crosses seen pos f.f1 → _) ∧
      (FieldsInRange pos f → Ascends seen pos f.f1 → Crosses seen pos f.f1 → _)
    rcases h with ⟨hn, e⟩ | ⟨hr, hn, e⟩ | ⟨hr, ho, hn, e⟩ | ⟨hr, ho, hc, e⟩
    · exact ⟨fun _ => hends e, fun hr => absurd hr hn, fun hr => absurd hr hn, fun hr => absurd hr hn⟩
    · exact ⟨absurd hr, fun _ _ => hends e, fun _ ho => absurd ho hn, fun _ ho => absurd ho hn⟩
    · exact ⟨absurd hr, fun _ => absurd ho, fun _ _ _ => hends e, fun _ _ hc => absurd hc hn⟩
    · refine ⟨absurd hr, fun _ => absurd ho, fun _ _ => absurd hc, fun _ _ _ => ?_⟩
      rcases hstep with ⟨why, hr', -⟩ | ⟨g, -, hg, e'⟩
      · rw [e] at hr'; cases hr'
      · rw [hx] at hg
        cases hg
        exact congrArg TableStore.walk e'

/-! ### The whole walk -/

/-- A walk that is not RUNNING stays as it is. -/
theorem TableStore.walkOn_ended {t : TableStore} (h : ∀ k pos seen, t.walk ≠ .running k pos seen) (n : Nat) :
    TableStore.walkOn n t = t := by
  cases n with
  | zero => rfl
  | succ n =>
    unfold TableStore.walkOn
    split
    · next hw => exact absurd hw (h _ _ _)
    all_goals rfl

theorem TableStore.walkOn_succ {t : TableStore} {k : WalkKind} {pos : Nat} {seen : List Int}
    (h : t.walk = .running k pos seen) (n : Nat) : TableStore.walkOn (n + 1) t = TableStore.walkOn n t.walkStep := by
  simp only [TableStore.walkOn, h]

/-- The first fields of a bank's latched entries before a position, as a walk of the whole bank has read them there. -/
def Bank.firsts (x : Bank) (n : Nat) : List Int := (List.range (min n 79)).map fun p => (x.entryAt p).firstField

theorem Bank.seenAt_firsts (x : Bank) {n p : Nat} (hn : p < n) (hp : p < 79) :
    seenAt (x.firsts n) p = (x.entryAt p).firstField := by
  simp [seenAt, Bank.firsts, hn, hp]

theorem Bank.firsts_succ {x : Bank} {p : Nat} {f : BankFields} (h : x.entryAt p = .passing f) :
    x.firsts (p + 1) = readOn p (x.firsts p) f.f1 := by
  unfold Bank.firsts readOn
  split
  · next hp =>
    rw [show min (p + 1) 79 = p + 1 by omega, show min p 79 = p by omega, List.range_succ, List.map_append]
    simp [h, Checked.firstField]
  · next hp => rw [show min (p + 1) 79 = min p 79 by omega]

/-- A walk passes its next `n` entries exactly when each passes its tests against those before it. -/
theorem TableStore.walkOn_passes_iff (n : Nat) {t : TableStore} {k : WalkKind} {pos : Nat}
    (h : t.walk = .running k pos ((t.bank t.walkedBank).firsts pos)) (hn : pos + n ≤ 559) :
    (∃ seen, (TableStore.walkOn n t).walk = .running k (pos + n) seen) ↔
      ∀ p, pos ≤ p → p < pos + n →
        walkReason (t.bank t.walkedBank) p ((t.bank t.walkedBank).firsts p) = none := by
  induction n generalizing t pos with
  | zero => exact ⟨fun _ p h1 h2 => by omega, fun _ => ⟨_, h⟩⟩
  | succ n ih =>
    rw [TableStore.walkOn_succ h]
    rcases TableStore.walkStep_cases h (by omega) with ⟨why, hr, e⟩ | ⟨f, hr, hf, e⟩ <;> rw [e]
    · rw [TableStore.walkOn_ended (by simp)]
      refine ⟨fun ⟨_, hw⟩ => (nomatch hw), fun hall => ?_⟩
      have := hall pos le_rfl (by omega)
      rw [hr] at this
      cases this
    · rw [← Bank.firsts_succ hf]
      have hsucc := ih (t := { t with
        walk := .running k (pos + 1) ((t.bank t.walkedBank).firsts (pos + 1)) }) (pos := pos + 1) rfl (by omega)
      rw [show pos + 1 + n = pos + (n + 1) by omega] at hsucc
      refine hsucc.trans ⟨fun hall p h1 h2 => ?_, fun hall p h1 h2 => hall p (by omega) h2⟩
      rcases Nat.eq_or_lt_of_le h1 with rfl | hlt
      · exact hr
      · exact hall p hlt h2

/-- Valid values are valid whatever stands beyond the 79 latched positions. -/
theorem ValidValues.congr {v w : Nat → Int} (h : ∀ p, p < 79 → v p = w p) (hv : ValidValues v) : ValidValues w := by
  have hspeeds : v 13 ≤ 12 := (hv.param 13 (by decide)).2
  have hdemands : v 14 ≤ 10 := (hv.param 14 (by decide)).2
  constructor
  case param => exact fun i hi => h i (by omega) ▸ hv.param i hi
  case speed => exact fun i hi => h (54 + i) (by omega) ▸ hv.speed i hi
  case demand => exact fun i hi => h (66 + i) (by omega) ▸ hv.demand i hi
  case thresh => exact fun i hi => h (76 + i) (by omega) ▸ hv.thresh i hi
  case speedAscent =>
    intro i hi
    rw [← h 13 (by omega)] at hi
    rw [← h (54 + i) (by omega), ← h (54 + i + 1) (by omega)]
    exact hv.speedAscent i hi
  case demandAscent =>
    intro i hi
    rw [← h 14 (by omega)] at hi
    rw [← h (66 + i) (by omega), ← h (66 + i + 1) (by omega)]
    exact hv.demandAscent i hi
  case idsDistinct =>
    intro i j hi hij hj
    rw [← h i (by omega), ← h j (by omega)]
    exact hv.idsDistinct i j hi hij hj
  case offBelowOn => rw [← h 16 (by decide), ← h 15 (by decide)]; exact hv.offBelowOn
  case unlockBelowLock => rw [← h 22 (by decide), ← h 21 (by decide)]; exact hv.unlockBelowLock
  case bandLow => rw [← h 76 (by decide), ← h 12 (by decide)]; exact hv.bandLow
  case thresh12 => rw [← h 76 (by decide), ← h 77 (by decide)]; exact hv.thresh12
  case thresh23 => rw [← h 77 (by decide), ← h 78 (by decide)]; exact hv.thresh23
  case bandHigh => rw [← h 78 (by decide), ← h 12 (by decide)]; exact hv.bandHigh

/-- The parameters of a bank are valid exactly when a walk of the whole bank passes their values. -/
theorem Bank.validValues_iff (x : Bank) :
    ValidValues (fun p => (x.entryAt p).firstField) ↔ ∀ p, p < 79 → ValuePasses (x.firsts 79) p := by
  have hagree (p : Nat) (hp : p < 79) : seenAt (x.firsts 79) p = (x.entryAt p).firstField := x.seenAt_firsts hp hp
  have htests : (∀ p, p < 79 → ValuePasses (x.firsts 79) p) ↔ ValidValues (seenAt (x.firsts 79)) := by
    rw [← prefixOk_79_iff, prefixOk_iff]
    exact ⟨fun h p hp _ => h p hp, fun h p hp => h p hp hp⟩
  rw [htests]
  exact ⟨.congr fun p hp => (hagree p hp).symm, .congr hagree⟩

/-- What the walk asks of a latched entry, against the values of the whole bank. -/
theorem Bank.walkReason_latched {x : Bank} {p : Nat} (hp : p < 79) :
    walkReason x p (x.firsts p) = none ↔ (∃ f, x.entryAt p = .passing f) ∧ ValuePasses (x.firsts 79) p := by
  rw [walkReason_eq_none_iff (by omega)]
  have hagree (q : Nat) (hq : q < p) : seenAt (x.firsts p) q = seenAt (x.firsts 79) q := by
    rw [x.seenAt_firsts hq (by omega), x.seenAt_firsts (show q < 79 by omega) (by omega)]
  have hself {f : BankFields} (hf : x.entryAt p = .passing f) : seenAt (x.firsts 79) p = f.f1 := by
    rw [x.seenAt_firsts hp hp, hf]
    rfl
  constructor
  · rintro ⟨f, hf, ⟨hlo, hhi, -⟩, hasc, hcross⟩
    obtain ⟨ascends, crosses⟩ := tests_congr hp hagree f.f1
    refine ⟨⟨f, hf⟩, ?_⟩
    unfold ValuePasses
    rw [hself hf]
    exact ⟨hlo, hhi, ascends.1 hasc, crosses.1 hcross⟩
  · rintro ⟨⟨f, hf⟩, hpasses⟩
    obtain ⟨ascends, crosses⟩ := tests_congr hp hagree f.f1
    unfold ValuePasses at hpasses
    rw [hself hf] at hpasses
    obtain ⟨hlo, hhi, hasc, hcross⟩ := hpasses
    exact ⟨f, hf, ⟨hlo, hhi, fun h => absurd h (by omega)⟩, ascends.2 hasc, crosses.2 hcross⟩

/-- What the walk asks of a cell of a band map: its check and the ranges of its two fields. -/
theorem walkReason_cell {x : Bank} {p : Nat} (hp : 79 ≤ p) (hp' : p < 559) (seen : List Int) :
    walkReason x p seen = none ↔
      ∃ f, x.entryAt p = .passing f ∧ 0 ≤ f.f1 ∧ f.f1 ≤ 1000 ∧ 0 ≤ f.f2 ∧ f.f2 ≤ 150 := by
  rw [walkReason_eq_none_iff hp']
  refine exists_congr fun f => and_congr_right fun _ => ?_
  have hasc : Ascends seen p f.f1 := ⟨fun _ h => by omega, fun _ h => by omega⟩
  have hcross : Crosses seen p f.f1 := by refine ⟨?_, ?_, ?_, ?_, ?_, ?_⟩ <;> intros <;> omega
  have hlo : walkLo p = 0 := by unfold walkLo; rw [if_neg (by omega), if_neg (by omega)]
  have hhi : walkHi p = 1000 := by
    unfold walkHi
    rw [if_neg (by omega), if_neg (by omega), if_neg (by omega), if_neg (by omega)]
  unfold FieldsInRange
  rw [hlo, hhi]
  exact ⟨fun ⟨⟨h1, h2, h3⟩, _⟩ => ⟨h1, h2, h3 hp⟩, fun ⟨h1, h2, h3⟩ => ⟨⟨h1, h2, fun _ => h3⟩, hasc, hcross⟩⟩

theorem Bank.loaded_iff (x : Bank) : x.Loaded ↔ ∀ p, p < 559 → walkReason x p (x.firsts p) = none := by
  constructor
  · intro h p hp
    obtain ⟨f, hf⟩ := h.passing p hp
    rcases Nat.lt_or_ge p 79 with h79 | h79
    · exact (Bank.walkReason_latched h79).2 ⟨⟨f, hf⟩, x.validValues_iff.1 h.params p h79⟩
    · exact (walkReason_cell h79 hp _).2 ⟨f, hf, h.shares p f h79 hp hf⟩
  · intro h
    refine ⟨fun p hp => ?_, fun p f h79 hp hf => ?_, x.validValues_iff.2 fun p hp => ?_⟩
    · obtain ⟨f, hf, -⟩ := (walkReason_eq_none_iff hp _).1 (h p hp)
      exact ⟨f, hf⟩
    · obtain ⟨g, hg, hranges⟩ := (walkReason_cell h79 hp _).1 (h p hp)
      rw [hf] at hg
      cases hg
      exact hranges
    · exact ((Bank.walkReason_latched hp).1 (h p (by omega))).2

/-- Settles O9, by induction over the entries the walk has left. -/
theorem walkPassesExactlyTheLoadedBanks : Obligations.WalkPassesExactlyTheLoadedBanks := by
  intro t k h
  have hpasses := TableStore.walkOn_passes_iff 559 (t := t) (k := k) (pos := 0) h le_rfl
  rw [Bank.loaded_iff]
  refine hpasses.trans ⟨fun hall p hp => hall p (Nat.zero_le p) (by omega), fun hall p _ hp => hall p (by omega)⟩

end Sys2Proof.Machine
end

section
/-! PROOFS. The completion of a walk, the swap it leaves or takes, the latch that fails, and the copy. -/

namespace Sys2Proof.Machine

/-! ### The completion of a commit walk (R14, R19) -/

/-- A commit walk that passed outside STANDBY and SAFE waits for its swap. -/
theorem State.commitPassed_waits {s : State} (h1 : s.regime.mode ≠ .standby) (h2 : s.regime.mode ≠ .safe) :
    s.commitPassed = s.setTables { s.tables.setVerified s.tables.walkedBank true with
      walk := .passed, swapPending := true } := if_neg (not_or.2 ⟨h1, h2⟩)

/-- In STANDBY and SAFE it takes it at the same event. -/
theorem State.commitPassed_swaps {s : State} (h : s.regime.mode = .standby ∨ s.regime.mode = .safe) :
    s.commitPassed = (s.setTables { s.tables.setVerified s.tables.walkedBank true with
      walk := .passed, swapPending := true }).takeSwap := if_pos h

/-- Settles O10: the two ways the completion of a passed commit walk goes on. -/
theorem passedCommitWalkWaitsOrSwaps : Obligations.PassedCommitWalkWaitsOrSwaps := by
  intro s seen hwalk hwalked
  refine ⟨_, exec_walkCompletion_passed hwalk, fun h1 h2 => ?waits, fun hm hpass => ?swaps⟩
  case waits =>
    rw [State.commitPassed_waits h1 h2, hwalked]
    refine ⟨?_, ?_, ?_⟩
    · cases hs : s.tables.shadow <;> simp only [State.setTables, TableStore.setVerified]
    · show (s.tables.setVerified s.tables.shadow true).verified s.tables.shadow = true
      rw [TableStore.verified_setVerified, if_pos rfl]
    · show (s.tables.setVerified s.tables.shadow true).verified s.tables.selector = _
      rw [TableStore.verified_setVerified, if_neg (by simp [TableStore.shadow])]
  case swaps =>
    have hlatched (p : Nat) (f : BankFields) (hp : p < 79) :=
      Bank.latched_of_passing (x := s.tables.bank s.tables.shadow) hp (f := f)
    have hmade := State.takeSwap_made (s.setTables { s.tables.setVerified s.tables.walkedBank true with
      walk := .passed, swapPending := true }) (by
        intro p hp
        show ((s.tables.setVerified s.tables.walkedBank true).bank
          (s.tables.setVerified s.tables.walkedBank true).shadow).entryAt p ≠ .failing
        simpa using hpass p hp)
    have hbank : (s.setTables { s.tables.setVerified s.tables.walkedBank true with
        walk := .passed, swapPending := true }).tables.bank (s.setTables { s.tables.setVerified s.tables.walkedBank true
        with walk := .passed, swapPending := true }).tables.shadow = s.tables.bank s.tables.shadow := by
      show (s.tables.setVerified s.tables.walkedBank true).bank
        (s.tables.setVerified s.tables.walkedBank true).shadow = _
      simp
    rw [State.commitPassed_swaps hm]
    simp only [hbank] at hmade
    rw [hmade, hwalked]
    generalize (s.tables.bank s.tables.shadow).latched = wp at hlatched ⊢
    refine ⟨?_, ?_, ?_, hlatched, staticRecord_eq wp⟩
    all_goals
      simp only [State.setTables, TableStore.shadow, TableStore.setVerified_selector]
      cases s.tables.selector <;> rfl

/-! ### Walks and latches that fail (R14, R20) -/

/-- A walk carried on far enough is at its end, and goes no further. -/
theorem TableStore.walkOn_saturated (n : Nat) {t : TableStore} {k : WalkKind} {pos : Nat} {seen : List Int}
    (h : t.walk = .running k pos seen) (hn : 559 ≤ pos + n) :
    TableStore.walkOn (n + 1) t = TableStore.walkOn n t := by
  induction n generalizing t pos seen with
  | zero =>
    rw [TableStore.walkOn_succ h, TableStore.walkStep_of_none_left fun k' pos' seen' h' => by
      rw [h] at h'; cases h'; exact hn]
  | succ n ih =>
    rw [TableStore.walkOn_succ h, TableStore.walkOn_succ h]
    rcases Nat.lt_or_ge pos 559 with hpos | hpos
    · rcases TableStore.walkStep_cases h hpos with ⟨why, -, e⟩ | ⟨f, -, -, e⟩ <;> rw [e]
      · rw [TableStore.walkOn_ended (by simp), TableStore.walkOn_ended (by simp)]
      · exact ih rfl (by omega)
    · have hstays : t.walkStep = t := TableStore.walkStep_of_none_left fun k' pos' seen' h' => by
        rw [h] at h'; cases h'; exact hpos
      rw [hstays]
      exact ih h (by omega)

/-- What the completion of a walk of a kind does once the walk is at its end (R14, R25). -/
def State.walkEnded (s : State) (k : WalkKind) : State :=
  match s.tables.walk, k with
  | .running _ _ _, .commit => s.commitPassed
  | .running _ _ _, .pinReset => s.pinResetPassed
  | .idle, _ | .passed, _ | .failed _, _ => s

theorem exec_walkCompletion {s : State} {k : WalkKind} {pos : Nat} {seen : List Int}
    (h : s.tables.walk = .running k pos seen) :
    exec .walkCompletion s = .next ((s.setTables (TableStore.walkOn 559 s.tables)).walkEnded k) := by
  simp only [exec, execWalkCompletion, h]
  rfl

/-- A swap whose latch meets a failing entry. -/
theorem State.takeSwap_dropped {s : State} {p : Nat} (hp : p < 79)
    (hf : (s.tables.bank s.tables.shadow).entryAt p = .failing)
    (hpre : ∀ p', p' < p → (s.tables.bank s.tables.shadow).entryAt p' ≠ .failing) :
    s.takeSwap = { s with tables := { (s.tables.setVerified s.tables.shadow false) with
      walk := .failed ⟨(tableAt p).1, (tableAt p).2, .check⟩, swapPending := false } } := by
  have hl := Bank.latchFailure_some _ p hp hf hpre
  rcases s.takeSwap_cases with ⟨f, hf', e⟩ | ⟨hn, -⟩
  · rw [hl] at hf'
    rw [e, ← Option.some.inj hf']
    rfl
  · rw [hl] at hn; cases hn

/-- What every entry and every new destination keeps is kept by settling. -/
theorem RegimeState.settle_keeps {α : Type} (f : RegimeState → α) {wp : WorkingParams}
    (enter : ∀ m r, f (RegimeState.enter wp m r) = f r) (headed : ∀ (d : Destination) r, f { r with dest := d } = f r)
    (i : SettleInputs) (r : RegimeState) : f (r.settle wp i) = f r := by
  have toward (m : Mode) (d : Destination) (r : RegimeState) : f (r.enterToward wp m d) = f r :=
    (headed d _).trans (enter m r)
  have stall (r : RegimeState) : f (r.stall wp) = f r := by
    unfold RegimeState.stall
    split <;> simp only [enter, toward]
  have ready (r : RegimeState) : f (r.settleReady wp i) = f r := by
    unfold RegimeState.settleReady
    split
    · rfl
    · split <;> simp only [enter, toward, headed]
  have limp (r : RegimeState) : f (r.settleLimp wp i) = f r := by
    unfold RegimeState.settleLimp RegimeState.enterLimpEngine
    split
    · rfl
    · split_ifs <;> simp only [enter]
    · split_ifs <;> simp only [enter]
    · split
      · split <;> simp only [enter]
      all_goals simp only [enter]
  have standbyExit (r : RegimeState) : f (r.settleStandbyExit wp i) = f r := by
    unfold RegimeState.settleStandbyExit
    split <;> simp only [enter]
  have lock (r : RegimeState) : f (r.settleLock wp i) = f r := by
    unfold RegimeState.settleLock
    split
    · split <;> simp only [enter, toward]
    · rfl
  have phase (r : RegimeState) : f (r.settleSyncPhase wp i) = f r := by
    unfold RegimeState.settleSyncPhase
    split <;> simp only [enter]
  have unlock (r : RegimeState) : f (r.settleUnlock wp i) = f r := by
    unfold RegimeState.settleUnlock
    split
    · split <;> simp only [enter]
    · rfl
  have lapsed (r : RegimeState) : f (r.settleStall wp i) = f r := by
    unfold RegimeState.settleStall
    split
    · exact stall r
    · rfl
  unfold RegimeState.settle
  split_ifs
  · rfl
  · exact enter _ r
  · rfl
  · exact enter _ r
  · rw [lapsed, unlock, phase, lock, standbyExit, limp, ready]

/-- A pending swap that the settled regime lets be taken, and whose latch fails, is dropped at the cycle start. -/
theorem State.swapAtStart_dropped {s : State} (hpending : s.tables.swapPending = true) {p : Nat} (hp : p < 79)
    (hf : (s.tables.bank s.tables.shadow).entryAt p = .failing)
    (hpre : ∀ p', p' < p → (s.tables.bank s.tables.shadow).entryAt p' ≠ .failing) :
    s.swapAtStart = { s with tables :=
      if s.regime.mode.regime = .crank ∨ s.regime.mode.regime = .sync ∨ s.regime.mode.regime = .release then s.tables
      else { (s.tables.setVerified s.tables.shadow false) with
        walk := .failed ⟨(tableAt p).1, (tableAt p).2, .check⟩, swapPending := false } } := by
  unfold State.swapAtStart
  by_cases hm : s.regime.mode.regime = .crank ∨ s.regime.mode.regime = .sync ∨ s.regime.mode.regime = .release
  · rw [if_pos hm, if_neg fun h => (Regime.allowsSwap_iff _).1 h.2 hm]
  · rw [if_neg hm, if_pos ⟨hpending, (Regime.allowsSwap_iff _).2 hm⟩, State.takeSwap_dropped hp hf hpre]

/-- The same latch at the completion of the pin-reset walk. -/
theorem State.pinResetPassed_dropped {s : State} (hwalked : s.tables.walkedBank = s.tables.selector) {p : Nat}
    (hp : p < 79) (hf : (s.tables.bank s.tables.selector).entryAt p = .failing)
    (hpre : ∀ p', p' < p → (s.tables.bank s.tables.selector).entryAt p' ≠ .failing) :
    s.pinResetPassed = { s with tables := { (s.tables.setVerified s.tables.selector false) with
      walk := .failed ⟨(tableAt p).1, (tableAt p).2, .check⟩ } } := by
  have hl := Bank.latchFailure_some _ p hp hf hpre
  unfold State.pinResetPassed
  simp only [hwalked, hl]
  rfl

/-- Settles O11: the walk carried on from its next entry, then the failing latch at the three places a latch is made. -/
theorem failedWalksAndLatchesAdoptNothing : Obligations.FailedWalksAndLatchesAdoptNothing := by
  refine ⟨fun s u k pos seen hwalk hpos hu => ?walks, fun s p hp hf hpre => State.takeSwap_dropped hp hf hpre,
    fun s p seen hwalk hwalked hm hp hf hpre => ?commit, fun s k p hreset hcycle hwaiting hpending hp hf hpre => ?start,
    fun s p seen hwalk hwalked hp hf hpre => ?pin⟩
  case walks =>
    cases hu
    have hcompletion : exec .walkCompletion s =
        .next ((s.setTables (TableStore.walkOn 558 s.tables.walkStep)).walkEnded k) := by
      rw [exec_walkCompletion hwalk, TableStore.walkOn_succ hwalk]
    rw [hcompletion]
    refine ⟨fun f hfailed => ?_, fun seen' hpassed => ?_⟩
    · have hended : TableStore.walkOn 558 s.tables.walkStep = s.tables.walkStep :=
        TableStore.walkOn_ended (fun _ _ _ h => by rw [show s.tables.walkStep.walk = _ from hfailed] at h; cases h) _
      rcases TableStore.walkStep_cases hwalk hpos with ⟨why, -, e⟩ | ⟨g, -, -, e⟩
      · rw [hended]
        simp only [State.setTables_tables, e] at hfailed ⊢
        rw [hfailed]
        rfl
      · rw [State.setTables_tables, e] at hfailed; cases hfailed
    · have hsame := TableStore.walkOn_saturated 558 (t := s.tables.walkStep) hpassed (by omega)
      rw [exec_walkCompletion hpassed, State.setTables_tables, hsame]
      rfl
  case commit =>
    rw [exec_walkCompletion_passed hwalk]
    refine congrArg Host.Outcome.next ?_
    show s.commitPassed = _
    rw [State.commitPassed_swaps hm, hwalked]
    have hdropped := State.takeSwap_dropped (s := s.setTables { s.tables.setVerified s.tables.shadow true with
      walk := .passed, swapPending := true }) hp (by
        show ((s.tables.setVerified s.tables.shadow true).bank
          (s.tables.setVerified s.tables.shadow true).shadow).entryAt p = .failing
        simpa using hf) (by
        intro p' hp'
        show ((s.tables.setVerified s.tables.shadow true).bank
          (s.tables.setVerified s.tables.shadow true).shadow).entryAt p' ≠ .failing
        simpa using hpre p' hp')
    rw [hdropped]
    simp only [State.setTables, TableStore.shadow, TableStore.setVerified_selector]
    cases s.tables.selector <;> rfl
  case start =>
    obtain ⟨a, ha, htables, hregime, hstatic, hsplit, -⟩ := s.startCycle_spec k
    have hdropped := State.swapAtStart_dropped (s := (s.setSplit { s.split with waiting := none }).settle)
      hpending hp hf hpre
    rw [← ha] at hdropped
    have hmode : a.regime = s.regime.settle s.tables.wp s.settleInputs := by rw [hdropped]; rfl
    have hdwell := RegimeState.settle_keeps (fun r => (r.want, r.unwant)) (wp := s.tables.wp) (fun _ _ => rfl)
      (fun _ _ => rfl) s.settleInputs s.regime
    obtain ⟨hwant, hunwant⟩ := Prod.mk.inj hdwell
    rw [← hmode] at hwant hunwant
    refine ⟨_, _, exec_splitCycleStart hreset hcycle hwaiting, by rw [hsplit], ?_⟩
    rw [hregime, htables, hstatic, hsplit]
    refine ⟨?_, ?_, ?_, ?_, ?_, hwant, hunwant, ?_⟩
    · show a.tables.wp = s.tables.wp
      rw [hdropped]
      show (if _ then _ else _ : TableStore).wp = _
      split
      · rfl
      · simp
    · show a.tables.selector = s.tables.selector
      rw [hdropped]
      show (if _ then _ else _ : TableStore).selector = _
      split
      · rfl
      · simp
    · show a.split.recompute = _
      rw [hdropped]
      rfl
    · rw [hdropped]; rfl
    · rw [hdropped]; rfl
    · rw [hmode, hdropped]; rfl
  case pin =>
    rw [exec_walkCompletion_passed hwalk]
    exact congrArg Host.Outcome.next (State.pinResetPassed_dropped hwalked hp hf hpre)

/-! ### The copy (R15, R16) -/

theorem entryAt_copyRest (active shadow : Bank) (p : Nat) {p' : Nat} (hp : p' < 559) :
    (copyRest active shadow p).entryAt p' = if p' < p then shadow.entryAt p' else active.entryAt p' := by
  have hat (x : Bank) : x.entryAt p' = x.entries[p'] := by simp [Bank.entryAt, hp]
  rw [hat, hat, hat]
  exact Vector.getElem_ofFn hp

/-- A gated command that is taken while no reset is applied. -/
theorem next_unlessReset_taken {s : State} (h : s.resetApplied = none) (t : State) :
    (.next (s.unlessReset t) : Host.Outcome State Fault Refusal) = .next t := by
  rw [s.unlessReset_none t h]

theorem exec_copyCompletion {s : State} {p : Nat} (h : s.resetApplied = none) (hcopy : s.tables.copy = some p) :
    exec .copyCompletion s = .next (s.setTables { s.tables.setBank s.tables.shadow
      (copyRest (s.tables.bank s.tables.selector) (s.tables.bank s.tables.shadow) p) with copy := none }) := by
  simp only [exec, execCopyCompletion, State.unlessReset_none _ _ h, hcopy]

theorem TableStore.bank_withCopy (t : TableStore) (c : Option Nat) (b : BankName) :
    ({ t with copy := c } : TableStore).bank b = t.bank b := by cases b <;> rfl

/-- Settles O12: both steps write the shadow alone. -/
theorem copyCarriesEveryEntry : Obligations.CopyCarriesEveryEntry := by
  intro s p hreset hcopy
  have hother : ¬s.tables.selector = s.tables.shadow := BankName.ne_other _
  refine ⟨fun hp => ⟨_, next_unlessReset_taken hreset _, ?_⟩, ⟨_, exec_copyCompletion hreset hcopy, ?_⟩⟩
  · have hstep : s.tables.copyStep = { s.tables.setBank s.tables.shadow ((s.tables.bank s.tables.shadow).setAt p
        ((s.tables.bank s.tables.selector).entryAt p)) with copy := some (p + 1) } := by
      simp only [TableStore.copyStep, hcopy, if_pos hp]
    rw [hstep]
    refine ⟨?_, ?_, fun p' => ?_⟩
    · cases s.tables.shadow <;> rfl
    · rw [State.setTables_tables, TableStore.bank_withCopy, TableStore.bank_setBank, if_neg hother]
    · rw [State.setTables_tables, TableStore.bank_withCopy, TableStore.bank_setBank_self]
      rcases Nat.lt_or_ge p' 559 with hp' | hp'
      · exact Bank.entryAt_setAt _ _ _ _ hp'
      · rw [Bank.entryAt_of_le _ _ hp', Bank.entryAt_of_le _ _ hp', if_neg (by omega)]
  · refine ⟨?_, ?_, fun p' hp' => ?_⟩
    · generalize copyRest _ _ _ = x
      cases s.tables.shadow <;> rfl
    · rw [State.setTables_tables, TableStore.bank_withCopy, TableStore.bank_setBank, if_neg hother]
    · rw [State.setTables_tables, TableStore.bank_withCopy, TableStore.bank_setBank_self, entryAt_copyRest _ _ _ hp']

end Sys2Proof.Machine
end

section
/-! PROOFS. Signal Intake: a delivered frame discarded or accepted, what the acceptance leaves in the limits and the
faults, and the expiries of the streams. -/

namespace Sys2Proof.Machine

/-! ### Discard (R28, R30) -/

/-- A frame that fails a test is discarded for the first one it fails. -/
theorem discardReason_of_not_accepts {m : StreamMeta} {f : Frame} (h : ¬m.Accepts f) :
    ∃ why, discardReason m f = some why ∧ (f.data.length ≠ 8 → why = .length) ∧
      (f.data.length = 8 → f.data.getD 7 0 ≠ checkByte f.id (f.data.take 7) → why = .check) ∧
      (f.data.length = 8 → f.data.getD 7 0 = checkByte f.id (f.data.take 7) → why = .repeated) := by
  unfold discardReason
  by_cases hlen : f.data.length = 8
  · by_cases hcheck : f.data.getD 7 0 = checkByte f.id (f.data.take 7)
    · have hrepeated : m.state ≠ .never ∧ m.counter = some (counterOf f.data) := by
        by_contra hfresh
        exact h ⟨hlen, hcheck, by tauto⟩
      exact ⟨.repeated, by rw [if_neg (not_not_intro hlen), if_neg (not_not_intro hcheck), if_pos hrepeated],
        absurd hlen, fun _ => absurd hcheck, fun _ _ => rfl⟩
    · exact ⟨.check, by rw [if_neg (not_not_intro hlen), if_pos hcheck], absurd hlen, fun _ _ => rfl,
        fun _ hc => absurd hc hcheck⟩
  · exact ⟨.length, if_pos hlen, fun _ => rfl, fun hl => absurd hl hlen, fun hl => absurd hl hlen⟩

/-- The state a consumed frame is delivered in: the receive count moved, and the frame offered on by CONSUME_PASS. -/
def State.consuming (s : State) (p : Port) (a : FwdAction) (f : Frame) : State :=
  (s.countReceived p).setForward (if a = .consumePass then (s.offerForward p.other f).forward else s.forward)

/-- Receiving a frame moves nothing but its port and the forward queues. -/
@[simp] theorem State.consuming_keeps (s : State) (p : Port) (a : FwdAction) (f : Frame) :
    (s.consuming p a f).tables = s.tables ∧ (s.consuming p a f).intake = s.intake ∧
    (s.consuming p a f).limits = s.limits ∧ (s.consuming p a f).split = s.split ∧
    (s.consuming p a f).regime = s.regime ∧ (s.consuming p a f).faults = s.faults ∧
    (s.consuming p a f).watch = s.watch ∧ (s.consuming p a f).mgmt = s.mgmt ∧
    (s.consuming p a f).strapId = s.strapId ∧ (s.consuming p a f).strapRate = s.strapRate ∧
    (s.consuming p a f).resetApplied = s.resetApplied ∧ (s.consuming p a f).freeIx = s.freeIx ∧
    (s.consuming p a f).pending = s.pending := by
  simp [State.consuming]

/-- Settles O14: the reason is the first test that fails. -/
theorem discardedFrameChangesTheReasonOnly : Obligations.DiscardedFrameChangesTheReasonOnly := by
  intro p r a f s hs hc ha hreject
  obtain ⟨why, hwhy, hreasons⟩ := discardReason_of_not_accepts hreject
  refine ⟨(s.consuming p a f).discardFrame r why, why, ?_, rfl, hreasons⟩
  rw [exec_frameReceived_consumed hs hc ha]
  show Host.Outcome.next ((s.consuming p a f).deliver r f) = _
  simp only [State.deliver, State.consuming_keeps, hwhy]

/-! ### Acceptance (R31, R38, R45) -/

theorem exec_frameReceived_accepted {s : State} {p : Port} {r : Role} {a : FwdAction} {f : Frame}
    (hs : s.Classifies p f) (hc : s.tables.classify p f.id = (a, some r)) (ha : a = .consume ∨ a = .consumePass)
    (haccepts : (s.intake.streams.get r).Accepts f) :
    exec (.frameReceived p f) s =
      .next (((s.consuming p a f).storeFrame r f.data).handAcceptance r) := by
  rw [exec_frameReceived_consumed hs hc ha]
  show Host.Outcome.next ((s.consuming p a f).deliver r f) = _
  simp only [State.deliver, State.consuming_keeps, discardReason_none haccepts]

/-- No acceptance but of BATTERY, INVERTER and ENGINE evaluates a watch. -/
theorem State.handAcceptance_watch {r : Role} (h : r = .demand ∨ r = .brake ∨ r = .clutch) (s : State) :
    (s.handAcceptance r).watch = s.watch := by
  rcases h with rfl | rfl | rfl
  · rfl
  · rfl
  · simp [State.handAcceptance, State.handClutch]

/-- Settles O15: the intake is written by the first part of the acceptance, the rest by what it is handed to. -/
theorem acceptedFrameIsStored : Obligations.AcceptedFrameIsStored := by
  intro p r a f s hs hc ha haccepts
  refine ⟨_, exec_frameReceived_accepted hs hc ha haccepts, ?_⟩
  have hintake := (s.consuming p a f).storeFrame_intake r f.data
  have hframe := ((s.consuming p a f).storeFrame r f.data).handAcceptance_frame r
  have hsplit := ((s.consuming p a f).storeFrame r f.data).handAcceptance_split r
  have hregime := ((s.consuming p a f).storeFrame r f.data).handAcceptance_regime r
  have hwatch := State.handAcceptance_watch (r := r) (s := (s.consuming p a f).storeFrame r f.data)
  have hports : ((s.consuming p a f).storeFrame r f.data).ports = (s.countReceived p).ports := by simp [State.consuming]
  have hforward : ((s.consuming p a f).storeFrame r f.data).forward =
      if a = .consumePass then (s.offerForward p.other f).forward else s.forward := by simp [State.consuming]
  have hkeeps := (s.consuming p a f).storeFrame_keeps r f.data
  generalize (s.consuming p a f).storeFrame r f.data = u at *
  simp only [State.consuming_keeps] at hkeeps hintake
  obtain ⟨htables, hlimits, husplit, huregime, huwatch, -, -, hmgmt, hid, hrate, hreset, hix, hpending⟩ := hkeeps
  simp only [State.handAcceptance_keeps, hintake]
  refine ⟨?_, fun r' hr' => ?_, trivial, ?_, ?_, ?_, ?_, ?_, ?_, ?_, ?_, fun hr => ?_, fun hr => ?_, fun hr => ?_⟩
  · rw [ByRole.get_set_self]; rfl
  · rw [ByRole.get_set_ne _ _ hr']
  · cases r <;> rfl
  · cases r <;> rfl
  · cases r <;> rfl
  · cases r <;> rfl
  · cases r <;> rfl
  · cases r <;> rfl
  · rw [hsplit, husplit]
    split <;> rfl
  · rw [hframe]
    simp only [htables, hmgmt, hid, hrate, hreset, hpending, hports, hforward, hintake]
  · refine ⟨?_, (hwatch (by tauto)).trans huwatch⟩
    rcases hr with rfl | rfl <;> exact hregime.trans huregime
  · exact (hwatch (by tauto)).trans huwatch
  · rcases hr with rfl | rfl <;> exact hregime.trans huregime

/-! ### The limits and the faults after an acceptance (R51, R52, R129, R130) -/

theorem satHi_of_mem {x : Int} (h : 0 ≤ x ∧ x ≤ 400) : satHi x = x := clamp_of_mem h.1 h.2

theorem satLo_of_mem {x : Int} (h : -400 ≤ x ∧ x ≤ 0) : satLo x = x := clamp_of_mem h.1 h.2

theorem satLo_neg_of_mem {x : Int} (h : 0 ≤ x ∧ x ≤ 400) : satLo (-x) = -x := satLo_of_mem (by omega)

/-- Decoded values lie in the lanes already, so their records saturate nothing. -/
theorem inverterRecord_decode (d : List Byte) : inverterRecord (decodeInverter d) =
    ⟨none, none, some (decodeInverter d).motoring, some (-(decodeInverter d).generating)⟩ := by
  have hm : 0 ≤ (decodeInverter d).motoring ∧ (decodeInverter d).motoring ≤ 400 :=
    clamp_bounds (fieldU (dataWord d) 13 10) (show (0 : Int) ≤ 400 by decide)
  have hg : 0 ≤ (decodeInverter d).generating ∧ (decodeInverter d).generating ≤ 400 :=
    clamp_bounds (fieldU (dataWord d) 23 10) (show (0 : Int) ≤ 400 by decide)
  rw [inverterRecord, satHi_of_mem hm, satLo_neg_of_mem hg]

theorem engineRecord_decode (d : List Byte) : engineRecord (decodeEngine d) =
    ⟨some (decodeEngine d).available, some (decodeEngine d).drag, none, none⟩ := by
  have ha : 0 ≤ (decodeEngine d).available ∧ (decodeEngine d).available ≤ 400 :=
    clamp_bounds (fieldU (dataWord d) 13 10) (show (0 : Int) ≤ 400 by decide)
  have hd := clamp_bounds (fieldU (dataWord d) 23 10) (show (0 : Int) ≤ 400 by decide)
  rw [engineRecord, satHi_of_mem ha, satLo_of_mem (x := (decodeEngine d).drag) (by simp only [decodeEngine]; omega)]

theorem brakeRecord_decode (d : List Byte) : brakeRecord (decodeBrake d) =
    ⟨none, none, none, some (-(decodeBrake d).regen)⟩ := by
  have hr : 0 ≤ (decodeBrake d).regen ∧ (decodeBrake d).regen ≤ 400 :=
    clamp_bounds (fieldU (dataWord d) 0 10) (show (0 : Int) ≤ 400 by decide)
  rw [brakeRecord, satLo_neg_of_mem hr]

/-- A source after its condition was removed, its clear mode read from the table. -/
def State.removedSource (s : State) (i : Fin 12) : FaultSource :=
  s.faults.sources[i].removed (s.tables.faultEntry i).clearMode

/-- A source after the flag of an accepted frame (R130). -/
def State.flaggedSource (s : State) (i : Fin 12) (isSet : Bool) : FaultSource :=
  if isSet then s.faults.sources[i].raised else s.removedSource i

theorem State.handFlag_sources (s : State) (i j : Fin 12) (b : Bool) : (s.handFlag i b).faults.sources[j] =
    if j = i then s.flaggedSource i b else s.faults.sources[j] := by
  cases b
  · show (s.removeFault i).faults.sources[j] = _
    rw [State.removeFault_sources]
    split
    · next h => subst h; rfl
    · rfl
  · show (s.raiseFault i).faults.sources[j] = _
    rw [State.raiseFault_sources]
    split
    · next h => subst h; rfl
    · rfl

theorem State.storeFrame_faults (s : State) (r : Role) (d : List Byte) : (s.storeFrame r d).faults =
    if (s.intake.streams.get r).state = .lapsed then (s.removeFault (lapseSource r)).faults else s.faults := by
  unfold State.storeFrame
  simp only
  split <;> rfl

theorem State.storeFrame_sources (s : State) (r : Role) (d : List Byte) (i : Fin 12) :
    (s.storeFrame r d).faults.sources[i] =
      if i = lapseSource r ∧ (s.intake.streams.get r).state = .lapsed then s.removedSource i
      else s.faults.sources[i] := by
  rw [State.storeFrame_faults]
  by_cases hl : (s.intake.streams.get r).state = .lapsed
  · rw [if_pos hl, State.removeFault_sources]
    simp only [hl, and_true]
    rfl
  · rw [if_neg hl, if_neg fun h => hl h.2]

/-- Every source after an acceptance: the lapse source first, then the flag of the frame (log entry 19). -/
theorem State.accepted_sources (s : State) (r : Role) (d : List Byte) (i : Fin 12) :
    ((s.storeFrame r d).handAcceptance r).faults.sources[i] =
      if i = lapseSource r ∧ (s.intake.streams.get r).state = .lapsed then s.removedSource i
      else if r = .inverter ∧ i = srcInverterFault then s.flaggedSource i (decodeInverter d).fault
      else if r = .engine ∧ i = srcEngineFault then s.flaggedSource i (decodeEngine d).fault
      else if r = .battery ∧ i = srcContactorOpen then s.flaggedSource i (!(decodeBattery d).contactorClosed)
      else if r = .clutch ∧ i = srcClutchFault then s.flaggedSource i (decodeClutch d).fault
      else s.faults.sources[i] := by
  have hstored := s.storeFrame_sources r d i
  have hflagged {j : Fin 12} (hj : j ≠ lapseSource r) (b : Bool) :
      (s.storeFrame r d).flaggedSource j b = s.flaggedSource j b := by
    simp only [State.flaggedSource, State.removedSource, State.storeFrame_keeps]
    have hother : ¬(j = lapseSource r ∧ (s.intake.streams.get r).state = .lapsed) := fun h => hj h.1
    rw [s.storeFrame_sources r d j, if_neg hother]
  have hintake := s.storeFrame_intake r d
  rw [State.handAcceptance_faults]
  cases r
  case demand | brake => simpa using hstored
  all_goals
    simp only [hintake, Intake.store]
    rw [State.handFlag_sources]
    split
    · next hi =>
      subst hi
      rw [hflagged (by decide), if_neg fun h => absurd h.1 (by decide)]
      simp
    · next hi =>
      rw [hstored]
      simp [hi]

/-- A removal as section 6.3 tables it. -/
theorem FaultSource.removed_eq (x : FaultSource) (m : ClearMode) : x.removed m =
    if x.cond = true ∨ x.timeout = true then
      ⟨match x.state, m with
        | .active, .auto => .clear
        | .active, .manual => .awaitAck
        | st, _ => st, false, false⟩
    else x := by
  rcases x with ⟨st, c, t⟩
  cases st <;> cases m <;> cases c <;> cases t <;> rfl

/-- Settles O16. -/
theorem acceptanceFeedsLimitsAndFaults : Obligations.AcceptanceFeedsLimitsAndFaults := by
  refine ⟨⟨rfl, rfl⟩, fun p r a f s hs hc ha haccepts =>
    ⟨_, exec_frameReceived_accepted hs hc ha haccepts, ?_, ?_⟩⟩
  · rw [State.handAcceptance_limits]
    simp only [State.handAcceptance_keeps, State.storeFrame_intake, State.storeFrame_keeps, State.consuming_keeps]
    cases r
    case inverter => simp only [Intake.store, inverterRecord_decode]
    case engine => simp only [Intake.store, engineRecord_decode]
    case brake => simp only [Intake.store, brakeRecord_decode]
    all_goals rfl
  · intro removed flagged i
    have hremoved (j : Fin 12) : (s.consuming p a f).removedSource j = removed j := by
      unfold State.removedSource
      rw [FaultSource.removed_eq, TableStore.faultEntry_eq]
      simp only [State.consuming_keeps]
      rfl
    have hflagged (j : Fin 12) (b : Bool) : (s.consuming p a f).flaggedSource j b = flagged j b := by
      unfold State.flaggedSource
      rw [hremoved]
      simp only [State.consuming_keeps]
      rfl
    rw [State.accepted_sources]
    simp only [hremoved, hflagged, State.handAcceptance_keeps, State.storeFrame_intake, State.consuming_keeps]
    cases r <;> simp [Intake.store]

/-! ### Expiries (R39, R40, R43) -/

theorem State.raisedLapse (s : State) (r : Role) :
    (s.raiseFault (lapseSource r)).faults.sources[lapseSource r] =
      { s.faults.sources[lapseSource r] with state := .active, cond := true } ∧
    ∀ i : Fin 12, i ≠ lapseSource r → (s.raiseFault (lapseSource r)).faults.sources[i] = s.faults.sources[i] :=
  ⟨(s.raiseFault_sources _ _).trans (if_pos rfl), fun _ hi => (s.raiseFault_sources _ _).trans (if_neg hi)⟩

/-- Settles O17. -/
theorem streamExpiriesFollowTheStates : Obligations.StreamExpiriesFollowTheStates := by
  refine ⟨fun r s hreset hrun hhold => ?held, fun r c s hreset hc => ?lapsed, fun s hreset hrun => ?fillIn⟩
  case held =>
    refine (next_unlessReset_taken hreset _).trans (congrArg _ ?_)
    rw [if_pos hrun]
    unfold State.deadlineExpired
    simp only [if_neg (not_le.2 hhold)]
    split <;> rfl
  case lapsed =>
    rcases hc with ⟨rfl, hrun⟩ | ⟨rfl, hrun, hhold⟩
    · refine ⟨_, next_unlessReset_taken hreset _, ?_⟩
      rw [if_pos hrun]
      exact ⟨rfl, rfl, s.raisedLapse r⟩
    · refine ⟨_, next_unlessReset_taken hreset _, ?_⟩
      rw [if_pos hrun]
      refine ⟨?_, ?_, ?_⟩
      · unfold State.deadlineExpired
        simp only [if_pos hhold]
        split <;> rfl
      · rw [State.deadlineExpired_intake, if_pos hhold]
        cases r <;> rfl
      · rw [State.deadlineExpired_faults, if_pos hhold]
        exact s.raisedLapse r
  case fillIn =>
    refine (next_unlessReset_taken hreset _).trans (congrArg _ ?_)
    rw [if_pos hrun]
    rfl

end Sys2Proof.Machine
end

section
/-! PROOFS. The layout of stream frames (R199): the bits of the data word, the fields placed in it, and the decoding
that gives them back. -/

namespace Sys2Proof.Machine

/-! ### The data word -/

theorem bytesToNat_testBit (l : List Byte) (k : Nat) :
    (bytesToNat l).testBit k = (l.getD (k / 8) 0).getLsbD (k % 8) := by
  induction l generalizing k with
  | nil => simp [bytesToNat]
  | cons b bs ih =>
    have hb : b.toNat < 2 ^ 8 := b.isLt
    rw [bytesToNat, Nat.add_comm, show 256 = 2 ^ 8 from rfl, Nat.testBit_two_pow_mul_add _ hb]
    split
    · next hk => rw [Nat.div_eq_of_lt hk, Nat.mod_eq_of_lt hk]; rfl
    · next hk =>
      obtain ⟨m, rfl⟩ : ∃ m, k = m + 8 := ⟨k - 8, by omega⟩
      rw [ih, Nat.add_sub_cancel, Nat.add_div_right _ (by decide), Nat.add_mod_right, List.getD_cons_succ]

/-- Bit `k` of the data word is bit `k % 8` of data byte `k / 8` (R199). -/
theorem dataWord_getLsbD (data : List Byte) {k : Nat} (hk : k < 48) :
    (dataWord data).getLsbD k = (data.getD (k / 8) 0).getLsbD (k % 8) := by
  rw [dataWord, BitVec.getLsbD_ofNat, bytesToNat_testBit]
  have hq : k / 8 < 6 := by omega
  simp only [hk, decide_true, Bool.true_and, List.getD_eq_getElem?_getD, List.getElem?_take_of_lt hq]

/-- The data word of a frame is the word it was built from. -/
theorem dataWord_frameBytes (id : Ident) (w : DataWord) (upper counter : Nibble) :
    dataWord (frameBytes id w upper counter) = w := by
  refine BitVec.eq_of_getLsbD_eq fun k hk => ?_
  rw [dataWord_getLsbD _ hk, frameBytes_word _ _ _ _ _ hk]

theorem counterOf_frameBytes (id : Ident) (w : DataWord) (upper counter : Nibble) :
    counterOf (frameBytes id w upper counter) = counter := by
  show (upper ++ counter).extractLsb' 0 4 = counter
  refine BitVec.eq_of_getLsbD_eq fun k hk => ?_
  rw [BitVec.getLsbD_extractLsb', BitVec.getLsbD_append]
  simp [hk]

/-- The flags of a frame are its upper bits. -/
theorem flagBit_frameBytes (id : Ident) (w : DataWord) (upper counter : Nibble) (j : Nat) :
    flagBit (frameBytes id w upper counter) (4 + j) = upper.getLsbD j := by
  show (upper ++ counter).getLsbD (4 + j) = _
  rw [BitVec.getLsbD_append]
  simp

/-! ### Fields of the data word -/

/-- A field read where it was placed. -/
theorem extractLsb'_putBits_self {width lo n : Nat} (v : Int) (h : lo + n ≤ width) :
    (putBits width lo n v).extractLsb' lo n = BitVec.ofInt n v := by
  refine BitVec.eq_of_getLsbD_eq fun k hk => ?_
  rw [BitVec.getLsbD_extractLsb', Bool.eq_iff_iff]
  simp only [hk, decide_true, Bool.true_and, putBits_getLsbD width lo n v (lo + k) (by omega)]
  simp [hk]

/-- A field read beside the one that was placed. -/
theorem extractLsb'_putBits_apart {width lo n lo' n' : Nat} (v : Int) (h : lo + n ≤ width)
    (hapart : lo' + n' ≤ lo ∨ lo + n ≤ lo') : (putBits width lo' n' v).extractLsb' lo n = 0 := by
  refine BitVec.eq_of_getLsbD_eq fun k hk => ?_
  rw [BitVec.getLsbD_extractLsb', Bool.eq_iff_iff]
  simp only [hk, decide_true, Bool.true_and, putBits_getLsbD width lo' n' v (lo + k) (by omega)]
  simp only [BitVec.ofNat_eq_ofNat, BitVec.getLsbD_zero, Bool.false_eq_true, iff_false]
  omega

theorem toNat_ofInt_of_mem {n : Nat} {v : Int} (h : 0 ≤ v) (h' : v < 2 ^ n) : ((BitVec.ofInt n v).toNat : Int) = v := by
  rw [BitVec.toNat_ofInt]
  push_cast
  rw [Int.emod_eq_of_lt h h', Int.toNat_of_nonneg h]

/-- An unsigned field that a word carries. -/
theorem fieldU_eq {w : DataWord} {lo n : Nat} {v : Int} (h : w.extractLsb' lo n = BitVec.ofInt n v) (h0 : 0 ≤ v)
    (h' : v < 2 ^ n) : fieldU w lo n = v := by
  rw [fieldU, h, toNat_ofInt_of_mem h0 h']

theorem clamp_eq {x lo hi : Int} (h : lo ≤ hi) : clamp x lo hi = max lo (min hi x) := by
  unfold clamp
  split_ifs <;> omega

/-! ### The six streams (R31 to R36) -/

section
variable {id : Ident} {n : Nibble}

theorem decodeDemand_frameBytes {v : DemandVals} (h : -600 ≤ v.torque ∧ v.torque ≤ 600) :
    decodeDemand (frameBytes id (wordDemand v) (flagsDemand v) n) = v := by
  have hfield : (wordDemand v).extractLsb' 0 12 = BitVec.ofInt 12 v.torque := extractLsb'_putBits_self _ (by decide)
  have htorque : fieldS (wordDemand v) 0 12 = v.torque := by
    rw [fieldS, hfield, BitVec.toInt_ofInt]
    exact Int.bmod_eq_of_le (by omega) (by omega)
  have hready : (flagsDemand v).getLsbD 0 = v.ready := by
    simp only [flagsDemand]; cases v.ready <;> cases v.zone <;> decide
  have hzone : (flagsDemand v).getLsbD 1 = v.zone := by
    simp only [flagsDemand]; cases v.ready <;> cases v.zone <;> decide
  simp only [decodeDemand, dataWord_frameBytes, htorque, clamp_of_mem h.1 h.2]
  rw [flagBit_frameBytes _ _ _ _ 0, flagBit_frameBytes _ _ _ _ 1, hready, hzone]

/-- Four unsigned fields placed one above the other are each read back. -/
theorem fieldU_four {n₁ n₂ n₃ n₄ l₂ l₃ l₄ : Nat} {a b c d : Int} (h₂ : n₁ ≤ l₂) (h₃ : l₂ + n₂ ≤ l₃)
    (h₄ : l₃ + n₃ ≤ l₄) (h : l₄ + n₄ ≤ 48) (ha : 0 ≤ a ∧ a < 2 ^ n₁) (hb : 0 ≤ b ∧ b < 2 ^ n₂)
    (hc : 0 ≤ c ∧ c < 2 ^ n₃) (hd : 0 ≤ d ∧ d < 2 ^ n₄) {w : DataWord}
    (hw : w = putBits 48 0 n₁ a ||| putBits 48 l₂ n₂ b ||| putBits 48 l₃ n₃ c ||| putBits 48 l₄ n₄ d) :
    fieldU w 0 n₁ = a ∧ fieldU w l₂ n₂ = b ∧ fieldU w l₃ n₃ = c ∧ fieldU w l₄ n₄ = d := by
  subst hw
  refine ⟨fieldU_eq ?_ ha.1 ha.2, fieldU_eq ?_ hb.1 hb.2, fieldU_eq ?_ hc.1 hc.2, fieldU_eq ?_ hd.1 hd.2⟩
  · simp (disch := omega) [BitVec.extractLsb'_or, extractLsb'_putBits_self, extractLsb'_putBits_apart]
  · simp (disch := omega) [BitVec.extractLsb'_or, extractLsb'_putBits_self, extractLsb'_putBits_apart]
  · simp (disch := omega) [BitVec.extractLsb'_or, extractLsb'_putBits_self, extractLsb'_putBits_apart]
  · simp (disch := omega) [BitVec.extractLsb'_or, extractLsb'_putBits_self, extractLsb'_putBits_apart]

theorem decodeBattery_frameBytes {v : BatteryVals} (hsoc : 0 ≤ v.soc ∧ v.soc ≤ 1000)
    (hdis : 0 ≤ v.pDis ∧ v.pDis ≤ 2000) (hchg : 0 ≤ v.pChg ∧ v.pChg ≤ 2000) (htemp : -40 ≤ v.temp ∧ v.temp ≤ 100) :
    decodeBattery (frameBytes id (wordBattery v) (flagsBattery v) n) = v := by
  obtain ⟨fsoc, fdis, fchg, ftemp⟩ := fieldU_four (w := wordBattery v) (by decide) (by decide) (by decide) (by decide)
    (by omega) (by omega) (by omega) (by omega) rfl
  have hflag : (flagsBattery v).getLsbD 0 = v.contactorClosed := by
    simp only [flagsBattery]; cases v.contactorClosed <;> decide
  simp only [decodeBattery, dataWord_frameBytes, fieldTemp, fsoc, fdis, fchg, ftemp, Int.add_sub_cancel,
    clamp_of_mem hsoc.1 hsoc.2, clamp_of_mem hdis.1 hdis.2, clamp_of_mem hchg.1 hchg.2, clamp_of_mem htemp.1 htemp.2]
  rw [flagBit_frameBytes _ _ _ _ 0, hflag]

theorem decodeInverter_frameBytes {v : InverterVals} (hspeed : 0 ≤ v.speed ∧ v.speed ≤ 7000)
    (hmot : 0 ≤ v.motoring ∧ v.motoring ≤ 400) (hgen : 0 ≤ v.generating ∧ v.generating ≤ 400)
    (htemp : -40 ≤ v.temp ∧ v.temp ≤ 200) :
    decodeInverter (frameBytes id (wordInverter v) (flagsInverter v) n) = v := by
  obtain ⟨fspeed, fmot, fgen, ftemp⟩ := fieldU_four (w := wordInverter v) (by decide) (by decide) (by decide)
    (by decide) (by omega) (by omega) (by omega) (by omega) rfl
  have hflag : (flagsInverter v).getLsbD 0 = v.fault := by
    simp only [flagsInverter]; cases v.fault <;> decide
  simp only [decodeInverter, dataWord_frameBytes, fieldTemp, fspeed, fmot, fgen, ftemp, Int.add_sub_cancel,
    clamp_of_mem hspeed.1 hspeed.2, clamp_of_mem hmot.1 hmot.2, clamp_of_mem hgen.1 hgen.2,
    clamp_of_mem htemp.1 htemp.2]
  rw [flagBit_frameBytes _ _ _ _ 0, hflag]

theorem decodeEngine_frameBytes {v : EngineVals} (hspeed : 0 ≤ v.speed ∧ v.speed ≤ 7000)
    (havail : 0 ≤ v.available ∧ v.available ≤ 400) (hdrag : -400 ≤ v.drag ∧ v.drag ≤ 0)
    (htemp : -40 ≤ v.temp ∧ v.temp ≤ 150) :
    decodeEngine (frameBytes id (wordEngine v) (flagsEngine v) n) = v := by
  obtain ⟨fspeed, favail, fdrag, ftemp⟩ := fieldU_four (w := wordEngine v) (by decide) (by decide) (by decide)
    (by decide) (by omega) (by omega) (by omega) (by omega) rfl
  have hrunning : (flagsEngine v).getLsbD 0 = v.running := by
    simp only [flagsEngine]; cases v.running <;> cases v.fault <;> decide
  have hfault : (flagsEngine v).getLsbD 1 = v.fault := by
    simp only [flagsEngine]; cases v.running <;> cases v.fault <;> decide
  have hclamp : clamp (-v.drag) 0 400 = -v.drag := clamp_of_mem (by omega) (by omega)
  simp only [decodeEngine, dataWord_frameBytes, fieldTemp, fspeed, favail, fdrag, ftemp, Int.add_sub_cancel,
    clamp_of_mem hspeed.1 hspeed.2, clamp_of_mem havail.1 havail.2, hclamp, clamp_of_mem htemp.1 htemp.2, Int.neg_neg]
  rw [flagBit_frameBytes _ _ _ _ 0, flagBit_frameBytes _ _ _ _ 1, hrunning, hfault]

theorem decodeClutch_frameBytes (v : ClutchVals) :
    decodeClutch (frameBytes id (wordClutch v) (flagsClutch v) n) = v := by
  have hcode : (v.state.code : Int) < 2 ^ 2 := by cases v.state <;> decide
  have fstate : fieldU (wordClutch v) 0 2 = v.state.code :=
    fieldU_eq (extractLsb'_putBits_self _ (by decide)) (Int.natCast_nonneg _) hcode
  have hstate : ClutchState.ofCode v.state.code = v.state := by cases v.state <;> rfl
  have hflag : (flagsClutch v).getLsbD 0 = v.fault := by
    simp only [flagsClutch]; cases v.fault <;> decide
  simp only [decodeClutch, dataWord_frameBytes, fstate, hstate]
  rw [flagBit_frameBytes _ _ _ _ 0, hflag]

theorem decodeBrake_frameBytes {v : BrakeVals} (h : 0 ≤ v.regen ∧ v.regen ≤ 400) :
    decodeBrake (frameBytes id (wordBrake v) 0 n) = v := by
  have fregen : fieldU (wordBrake v) 0 10 = v.regen :=
    fieldU_eq (extractLsb'_putBits_self _ (by decide)) h.1 (by omega)
  simp only [decodeBrake, dataWord_frameBytes, fregen, clamp_of_mem h.1 h.2]

end

/-- Settles O20: the round trip stream by stream, then the decoding of any data. -/
theorem streamDecodingInvertsTheLayout : Obligations.StreamDecodingInvertsTheLayout := by
  refine ⟨fun x id n h => ⟨decodeDemand_frameBytes h.torque, decodeBattery_frameBytes h.soc h.pDis h.pChg h.battTemp,
    decodeInverter_frameBytes h.shaftSpeed h.motoring h.generating h.motorTemp,
    decodeEngine_frameBytes h.engineSpeed h.available h.drag h.coolantTemp, decodeClutch_frameBytes _,
    decodeBrake_frameBytes h.regen, fun w u => ⟨counterOf_frameBytes id w u n, rfl⟩⟩,
    fun data k hk => dataWord_getLsbD data hk, fun data k hk => ?counter, checkByte_toNat, fun data => ?decode⟩
  case counter =>
    rw [counterOf, byte6, BitVec.getLsbD_extractLsb']
    simp [hk]
  case decode =>
    have within (lo hi v : Int) (h : lo ≤ hi) : clamp v lo hi = max lo (min hi v) := clamp_eq h
    refine ⟨?_, ?_, ?_, ?_, rfl, ?_⟩
    · simp (disch := decide) only [decodeDemand, within]; rfl
    · simp (disch := decide) only [decodeBattery, within]; rfl
    · simp (disch := decide) only [decodeInverter, within]; rfl
    · simp (disch := decide) only [decodeEngine, within]; rfl
    · simp (disch := decide) only [decodeBrake, within]; rfl

end Sys2Proof.Machine
end

section
/-! PROOFS. The start of a split cycle: what it leaves in each block, the inputs it fixes, the limit vector it forms and
the swap it takes (R18, R19, R60, R65). -/

namespace Sys2Proof.Machine

/-! ### What a start leaves -/

theorem State.startCycle_frame (s : State) (k : CycleKind) : s.startCycle k = { s with
    tables := (s.startCycle k).tables, limits := (s.startCycle k).limits, split := (s.startCycle k).split
    regime := (s.startCycle k).regime, watch := (s.startCycle k).watch } := by
  obtain ⟨h1, h2, h3, h4, h5, h6, h7, h8, h9, h10, -⟩ := s.startCycle_keeps k
  generalize s.startCycle k = t at *
  cases t
  simp only at h1 h2 h3 h4 h5 h6 h7 h8 h9 h10
  simp only [h1, h2, h3, h4, h5, h6, h7, h8, h9, h10]

/-- The cycle fixes the inputs as they stand once the start is done. -/
theorem State.startCycle_cycle (s : State) (k : CycleKind) :
    (s.startCycle k).split.cycle = some ((s.startCycle k).fixInputs k) := rfl

theorem State.startCycle_split (s : State) (k : CycleKind) : (s.startCycle k).split = { s.split with
    waiting := none, cycle := some ((s.startCycle k).fixInputs k), recompute := (s.startCycle k).split.recompute
    started := true } := by
  obtain ⟨a, ha, -, -, -, hsplit, -⟩ := s.startCycle_spec k
  have hkeeps := (s.setSplit { s.split with waiting := none }).settle.swapAtStart_keeps
  rw [← ha] at hkeeps
  obtain ⟨-, -, -, -, -, -, -, -, -, -, -, hband, hprev, hwanted, hcount, hhistory, hwaiting, -⟩ := hkeeps
  rw [← s.startCycle_cycle k, hsplit]
  simp only [hband, hprev, hwanted, hcount, hhistory, hwaiting]
  rfl

theorem State.startCycle_watch (s : State) (k : CycleKind) : (s.startCycle k).watch = { s.watch with
    cells := Vector.ofFn fun i : Fin 16 => heldDisabled s.tables.watch[i] s.watch.cells[i] } := by
  simp [State.startCycle, State.readWatchTable]

/-- The records a start leaves, and their combination (R60). -/
theorem State.startCycle_limits (s : State) (k : CycleKind) :
    (s.startCycle k).limits.engine = (if s.intake.live .engine then s.limits.engine else engineFallback) ∧
    (s.startCycle k).limits.inverter = (if s.intake.live .inverter then s.limits.inverter else inverterFallback) ∧
    (s.startCycle k).limits.brake = (if s.intake.live .brake then s.limits.brake else brakeFallback) ∧
    (s.startCycle k).limits.battery = batteryRecord (s.startCycle k).tables.wp
      (s.intake.effBattery (s.startCycle k).tables.wp) s.intake.effInverter.speed ∧
    (s.startCycle k).limits.watch = watchRecord (s.startCycle k).watch (s.startCycle k).tables ∧
    (s.startCycle k).limits.fault = faultRecord s.faults s.tables ∧
    (s.startCycle k).limits.combined = (s.startCycle k).limits.combine := by
  have hlimits : (s.setSplit { s.split with waiting := none }).settle.swapAtStart.limits = { s.limits with
      static := (s.setSplit { s.split with waiting := none }).settle.swapAtStart.limits.static } := by
    unfold State.swapAtStart
    split
    · rcases State.takeSwap_cases (s.setSplit { s.split with waiting := none }).settle with ⟨f, -, e⟩ | ⟨-, e⟩ <;>
        rw [e] <;> rfl
    · rfl
  have hkeeps := (s.setSplit { s.split with waiting := none }).settle.swapAtStart_keeps
  have hlive := (s.setSplit { s.split with waiting := none }).settle.swapAtStart_live
  unfold State.startCycle
  simp only
  generalize (s.setSplit { s.split with waiting := none }).settle.swapAtStart = a at *
  obtain ⟨hintake, hfaults, -⟩ := hkeeps
  obtain ⟨-, -, -, hmap⟩ := hlive
  have hintake' : a.intake = s.intake := hintake
  have hfaults' : a.faults = s.faults := hfaults
  have hforce : entriesInForce a.faults a.tables = entriesInForce s.faults s.tables := by
    rw [hfaults']
    exact entriesInForce_congr hmap _
  refine ⟨?_, ?_, ?_, ?_, rfl, ?_, rfl⟩
  all_goals simp only [State.setSplit_limits, State.setSplit_tables, State.updateLimits, State.setLimits_limits,
    State.setLimits_tables, State.recordsAtStart, State.readWatchTable_keeps, hintake', faultRecord, hforce]
  all_goals rw [hlimits]

/-! ### The matched watches (R56, R65) -/

theorem mem_matchedEntries (w : WatchUnit) (t : TableStore) (e : WatchEntry) : e ∈ matchedEntries w t ↔
    ∃ i : Fin 16, w.cells[i].state = .matched ∧ t.watch[i] = .passing e := by
  have all : ∀ i : Fin 16, i ∈ watchIndices := by decide
  simp only [matchedEntries, List.mem_filterMap, all, true_and]
  refine exists_congr fun i => ?_
  cases w.cells[i].state <;> cases t.watch[i] <;> simp

theorem anyMatched_iff (w : WatchUnit) (t : TableStore) (a : WatchAction) : anyMatched w t a = true ↔
    ∃ (i : Fin 16) (e : WatchEntry), w.cells[i].state = .matched ∧ t.watch[i] = .passing e ∧ e.action = a := by
  simp only [anyMatched, List.any_eq_true, decide_eq_true_eq, mem_matchedEntries]
  exact ⟨fun ⟨e, ⟨i, hi, he⟩, ha⟩ => ⟨i, e, hi, he, ha⟩, fun ⟨i, e, hi, he, ha⟩ => ⟨e, ⟨i, hi, he⟩, ha⟩⟩

/-- The derates of a watch action, saturated. -/
theorem derateOf_spec (w : WatchUnit) (t : TableStore) (a : WatchAction) :
    let derates (y : Int) : Prop := ∃ (i : Fin 16) (e : WatchEntry),
      w.cells[i].state = .matched ∧ t.watch[i] = .passing e ∧ e.action = a ∧ y = max 0 (min 400 e.actionValue)
    (derateOf w t a = none ↔ ∀ y, ¬derates y) ∧
      ∀ y, derateOf w t a = some y → derates y ∧ ∀ z, derates z → y ≤ z := by
  intro derates
  have hmem (y : Int) : y ∈ ((matchedEntries w t).filter fun e => decide (e.action = a)).map
      (fun e => satHi e.actionValue) ↔ derates y := by
    simp only [List.mem_map, List.mem_filter, decide_eq_true_eq, mem_matchedEntries, satHi_eq]
    exact ⟨fun ⟨e, ⟨⟨i, hi, he⟩, ha⟩, hy⟩ => ⟨i, e, hi, he, ha, hy.symm⟩,
      fun ⟨i, e, hi, he, ha, hy⟩ => ⟨e, ⟨⟨i, hi, he⟩, ha⟩, hy.symm⟩⟩
  unfold derateOf
  constructor
  · rw [leastOf_eq_none_iff, List.eq_nil_iff_forall_not_mem]
    exact forall_congr' fun y => not_congr (hmem y)
  · intro y hy
    obtain ⟨hin, hleast⟩ := (leastOf_eq_some_iff _ _).1 hy
    exact ⟨(hmem y).1 hin, fun z hz => hleast z ((hmem z).2 hz)⟩

/-! ### The forced lanes (R57) -/

theorem forcedLane_spec {es : List FaultEntry} {member : FaultEntry → Bool} {p : Prop}
    (h : (∃ e ∈ es, member e = true) ↔ p) :
    (p → forcedLane es member = some 0) ∧ (¬p → forcedLane es member = none) := by
  have hany : es.any member = true ↔ p := List.any_eq_true.trans h
  exact ⟨fun hp => if_pos (hany.2 hp), fun hp => if_neg fun ha => hp (hany.1 ha)⟩

theorem exists_entriesInForce (f : FaultUnit) (t : TableStore) (lane : ForcedSet → Bool) :
    (∃ e ∈ entriesInForce f t, lane e.forced = true) ↔
      ∃ i : Fin 12, f.sources[i].state ≠ .clear ∧ lane (t.readFaultEntry i).forced = true := by
  simp only [mem_entriesInForce, ← FaultState.ne_clear_iff]
  exact ⟨fun ⟨_, ⟨i, hi, rfl⟩, hl⟩ => ⟨i, hi, hl⟩, fun ⟨i, hi, hl⟩ => ⟨_, ⟨i, hi, rfl⟩, hl⟩⟩

/-! ### The combined vector (R59) -/

/-- With STATIC present in every lane the combination is the least, or greatest, present value of each. -/
theorem Limits.combine_spec {x : Limits} (h : ∀ r ∈ x.records, r.InRange) (h1 : x.static.engHi.isSome = true)
    (h2 : x.static.engLo.isSome = true) (h3 : x.static.motHi.isSome = true) (h4 : x.static.motLo.isSome = true) :
    some x.combine.engHi ∈ x.records.map LimitRecord.engHi ∧
    (∀ r ∈ x.records, ∀ y ∈ r.engHi, x.combine.engHi ≤ y) ∧
    some x.combine.engLo ∈ x.records.map LimitRecord.engLo ∧
    (∀ r ∈ x.records, ∀ y ∈ r.engLo, y ≤ x.combine.engLo) ∧
    some x.combine.motHi ∈ x.records.map LimitRecord.motHi ∧
    (∀ r ∈ x.records, ∀ y ∈ r.motHi, x.combine.motHi ≤ y) ∧
    some x.combine.motLo ∈ x.records.map LimitRecord.motLo ∧
    (∀ r ∈ x.records, ∀ y ∈ r.motLo, y ≤ x.combine.motLo) := by
  have hstatic : x.static ∈ x.records := List.mem_cons_self
  obtain ⟨r1, r2, r3, r4⟩ := Limits.lane_inRange h
  obtain ⟨-, -, l1, m1⟩ := leastPresent_spec _ r1
  obtain ⟨-, -, l2, m2⟩ := greatestPresent_spec _ r2
  obtain ⟨-, -, l3, m3⟩ := leastPresent_spec _ r3
  obtain ⟨-, -, l4, m4⟩ := greatestPresent_spec _ r4
  exact ⟨m1 ⟨_, List.mem_map_of_mem hstatic, h1⟩, fun r hr => l1 _ (List.mem_map_of_mem hr),
    m2 ⟨_, List.mem_map_of_mem hstatic, h2⟩, fun r hr => l2 _ (List.mem_map_of_mem hr),
    m3 ⟨_, List.mem_map_of_mem hstatic, h3⟩, fun r hr => l3 _ (List.mem_map_of_mem hr),
    m4 ⟨_, List.mem_map_of_mem hstatic, h4⟩, fun r hr => l4 _ (List.mem_map_of_mem hr)⟩

/-- A lane that FAULT closes is 0 in the combination. -/
theorem Limits.combine_closed {x : Limits} (h : ∀ r ∈ x.records, r.InRange) :
    (x.fault.engHi = some 0 → x.combine.engHi = 0) ∧ (x.fault.engLo = some 0 → x.combine.engLo = 0) ∧
    (x.fault.motHi = some 0 → x.combine.motHi = 0) ∧ (x.fault.motLo = some 0 → x.combine.motLo = 0) := by
  have hfault : x.fault ∈ x.records := by simp [Limits.records]
  have hrange := Limits.combine_inRange h
  obtain ⟨r1, r2, r3, r4⟩ := Limits.lane_inRange h
  obtain ⟨-, -, l1, -⟩ := leastPresent_spec _ r1
  obtain ⟨-, -, l2, -⟩ := greatestPresent_spec _ r2
  obtain ⟨-, -, l3, -⟩ := leastPresent_spec _ r3
  obtain ⟨-, -, l4, -⟩ := greatestPresent_spec _ r4
  exact ⟨fun e => le_antisymm (l1 _ (List.mem_map_of_mem hfault) 0 e) hrange.engHi.1,
    fun e => le_antisymm hrange.engLo.2 (l2 _ (List.mem_map_of_mem hfault) 0 e),
    fun e => le_antisymm (l3 _ (List.mem_map_of_mem hfault) 0 e) hrange.motHi.1,
    fun e => le_antisymm hrange.motLo.2 (l4 _ (List.mem_map_of_mem hfault) 0 e)⟩

/-- The power limits that BATTERY is computed from (R37, R53). -/
theorem Intake.effBattery_powers (x : Intake) (wp : WorkingParams) :
    (x.effBattery wp).pDis = (if x.live .battery then x.battery.pDis else wp.at 8) ∧
    (x.effBattery wp).pChg = (if x.live .battery then x.battery.pChg else wp.at 9) := by
  rw [Intake.effBattery_eq]
  exact ⟨rfl, rfl⟩

theorem batteryRecord_congr (wp : WorkingParams) {v v' : BatteryVals} (speed : Int) (hdis : v.pDis = v'.pDis)
    (hchg : v.pChg = v'.pChg) : batteryRecord wp v speed = batteryRecord wp v' speed := by
  simp only [batteryRecord, hdis, hchg]

/-- Settles O22: the combination from the searches for least and greatest values, the records from the start. -/
theorem limitVectorIsFormedAtTheCycleStart : Obligations.LimitVectorIsFormedAtTheCycleStart := by
  refine ⟨fun x h h1 h2 h3 h4 => ?combination, fun s k hreset hcycle hwaiting =>
    ⟨_, _, exec_splitCycleStart hreset hcycle hwaiting, s.startCycle_cycle k, ?start⟩⟩
  case combination =>
    obtain ⟨a1, a2, a3, a4, a5, a6, a7, a8⟩ := Limits.combine_spec h h1 h2 h3 h4
    have hrange := Limits.combine_inRange h
    exact ⟨a1, a2, a3, a4, a5, a6, a7, a8, hrange.engLo.2, hrange.engHi.1, hrange.motLo.2, hrange.motHi.1⟩
  case start =>
    obtain ⟨hengine, hinverter, hbrake, hbattery, hwatch, hfault, hcombined⟩ := s.startCycle_limits k
    have hinv (hl : LimitsInv s) := Limits.combine_closed (hl.startCycle k).records
    have hstatic : s.tables.swapPending = false → (s.startCycle k).limits.static = s.limits.static := fun hp => by
      simp [State.startCycle, State.swapAtStart, hp]
    generalize s.startCycle k = t at *
    have hclanes : (t.fixInputs k).lanes = t.limits.combined := rfl
    rw [hclanes, hcombined]
    rw [hfault] at hinv
    have hpowers := s.intake.effBattery_powers t.tables.wp
    intro live speed battery derates least forced closes
    have hspeed : s.intake.effInverter.speed = speed := by rw [Intake.effInverter_eq]; rfl
    have hclosed {lane : ForcedSet → Bool} : closes (forced lane)
        (forcedLane (entriesInForce s.faults s.tables) fun e => lane e.forced) :=
      forcedLane_spec (exists_entriesInForce _ _ _)
    have hderate (a : WatchAction) : least a (derateOf t.watch t.tables a) := derateOf_spec _ _ _
    refine ⟨hstatic, hengine, hinverter, hbrake, ?_, ?_, ?_, ?_, ?_, ?_, ?_, ?_, ?_, rfl, rfl, fun hl => ?_⟩
    · rw [hbattery, hspeed]
      exact batteryRecord_congr _ _ hpowers.1 hpowers.2
    · rw [hwatch]; exact hderate .derateEngine
    · rw [hwatch]; rfl
    · rw [hwatch]; exact hderate .derateMotor
    · rw [hwatch]; rfl
    · rw [hfault]; exact hclosed (lane := ForcedSet.engine)
    · rw [hfault]; exact hclosed (lane := ForcedSet.engine)
    · rw [hfault]; exact hclosed (lane := ForcedSet.motorDrive)
    · rw [hfault]; exact hclosed (lane := ForcedSet.motorRegen)
    · obtain ⟨c1, c2, c3, c4⟩ := hinv hl
      exact ⟨fun hf => ⟨c1 (hclosed.1 hf), c2 (hclosed.1 hf)⟩, fun hf => c3 (hclosed.1 hf), fun hf => c4 (hclosed.1 hf)⟩

/-! ### The inputs (R65) -/

/-- The first cycle after a reset is fixed in STANDBY (R127, R168). -/
theorem State.startCycle_first {s : State} (hfirst : s.split.started = false) (h : RegimeInv s) (k : CycleKind) :
    (s.startCycle k).regime.mode = .standby := by
  obtain ⟨a, w, u, hregime, -⟩ := s.startCycle_regime k
  have hm := (h.first hfirst).1
  have hmay : s.settleInputs.mayLeaveStandby = false := by simp [State.settleInputs, State.mayLeaveStandby, hfirst]
  rw [hregime, RegimeState.settle_standby_stays hm hmay]
  exact hm

/-- With no swap pending a start changes no table and not the recompute mark. -/
theorem State.startCycle_unpending {s : State} (h : s.tables.swapPending = false) (k : CycleKind) :
    (s.startCycle k).tables = s.tables ∧ (s.startCycle k).split.recompute = s.split.recompute := by
  simp [State.startCycle, State.swapAtStart, h]

/-- What a start leaves in the state of a watch (R153). -/
theorem State.startCycle_cells (s : State) (k : CycleKind) (i : Fin 16) : (s.startCycle k).watch.cells[i] =
    match s.tables.watch[i] with
    | .passing _ => s.watch.cells[i]
    | .failing => { s.watch.cells[i] with state := .disabled } := by
  rw [State.startCycle_watch]
  simp only [Fin.getElem_fin, Vector.getElem_ofFn]
  cases s.tables.watch[i.val] <;> rfl

/-- Settles O23: the inputs are read off the state the start leaves. -/
theorem cycleStartFixesTheInputs : Obligations.CycleStartFixesTheInputs := by
  intro s k hreset hcycle hwaiting
  refine ⟨_, (s.startCycle k).fixInputs k, exec_splitCycleStart hreset hcycle hwaiting, ?_⟩
  intro live
  obtain ⟨-, -, -, -, -, -, hcombined⟩ := s.startCycle_limits k
  obtain ⟨hintake, -⟩ := s.startCycle_keeps k
  have hfirst (hf : s.split.started = false) (h : RegimeInv s) := State.startCycle_first hf h k
  have hunpending (hp : s.tables.swapPending = false) := State.startCycle_unpending hp k
  have hframe := s.startCycle_frame k
  have hsplit := s.startCycle_split k
  have hwatch := s.startCycle_watch k
  have hcells := s.startCycle_cells k
  generalize s.startCycle k = t at *
  refine ⟨hframe, hsplit, hfirst, rfl, rfl, rfl, rfl, rfl, hcombined, ?_, ?_, ?_, ?_, ?_, rfl, rfl,
    anyMatched_iff _ _ _, anyMatched_iff _ _ _, hcells, by rw [hwatch], by rw [hwatch], hunpending⟩
  · show t.intake.effDemand.torque = _
    rw [hintake, Intake.effDemand_eq]; rfl
  · show t.intake.effDemand.ready = _
    rw [hintake, Intake.effDemand_eq]; rfl
  · show t.intake.effDemand.zone = _
    rw [hintake, Intake.effDemand_eq]; rfl
  · show t.intake.effInverter.speed = _
    rw [hintake, Intake.effInverter_eq]; rfl
  · show (t.intake.effBattery t.tables.wp).soc = _
    rw [hintake, Intake.effBattery_eq]; rfl

/-! ### The swap at a start (R18, R19) -/

/-- A pending swap is taken unless the settled regime is CRANK, SYNC or RELEASE. -/
theorem State.swapAtStart_pending {s : State} (h : s.tables.swapPending = true) : s.swapAtStart =
    if s.regime.mode.regime = .crank ∨ s.regime.mode.regime = .sync ∨ s.regime.mode.regime = .release then s
    else s.takeSwap := by
  unfold State.swapAtStart
  by_cases hm : s.regime.mode.regime = .crank ∨ s.regime.mode.regime = .sync ∨ s.regime.mode.regime = .release
  · rw [if_pos hm, if_neg fun h => (Regime.allowsSwap_iff _).1 h.2 hm]
  · rw [if_neg hm, if_pos ⟨h, (Regime.allowsSwap_iff _).2 hm⟩]

/-- Settles O24: where the settled regime lets it be taken, the swap is the one made of the settled state. -/
theorem pendingSwapWaitsForItsBoundary : Obligations.PendingSwapWaitsForItsBoundary := by
  intro s k hreset hcycle hwaiting hpending hpass
  refine ⟨_, _, exec_splitCycleStart hreset hcycle hwaiting, s.startCycle_cycle k, ?_⟩
  obtain ⟨a, ha, htables, hregime, hstatic, hsplit, -⟩ := s.startCycle_spec k
  have hfixed (c : CycleInputs) (hc : (s.startCycle k).fixInputs k = c) : c.recompute = a.split.recompute ∧
      c.remarked = false ∧ c.bank = a.tables.selector ∧ c.wp = a.tables.wp := by
    subst hc
    refine ⟨?_, rfl, congrArg TableStore.selector htables, congrArg TableStore.wp htables⟩
    show (s.startCycle k).split.recompute = _
    rw [hsplit]
  have hfixed := hfixed _ rfl
  have hlatched (p : Nat) (f : BankFields) (hp : p < 79) :=
    Bank.latched_of_passing (x := s.tables.bank s.tables.shadow) hp (f := f)
  have hmade := (s.setSplit { s.split with waiting := none }).settle.takeSwap_made hpass
  have hpending' : (s.setSplit { s.split with waiting := none }).settle.tables.swapPending = true := hpending
  rw [State.swapAtStart_pending hpending', hmade] at ha
  generalize (s.startCycle k).fixInputs k = c at *
  generalize s.startCycle k = t at *
  have hbank : (s.setSplit { s.split with waiting := none }).settle.tables.bank
    (s.setSplit { s.split with waiting := none }).settle.tables.shadow = s.tables.bank s.tables.shadow := rfl
  rw [hbank] at ha
  generalize (s.tables.bank s.tables.shadow).latched = wp at ha hlatched
  have hmode : t.regime.mode = (s.setSplit { s.split with waiting := none }).settle.regime.mode := by
    rw [hregime, ha]
    split <;> rfl
  rw [hmode]
  split
  · next hm =>
    rw [htables, ha, if_pos hm]
    rfl
  · next hm =>
    rw [if_neg hm] at ha
    have htables' : t.tables = { (s.tables.setVerified s.tables.selector false) with
        selector := s.tables.shadow, swapPending := false, wp := wp } := by rw [htables, ha]; rfl
    have hstatic' : t.limits.static = staticRecord wp := by rw [hstatic, ha]
    have hregime' : t.regime.want = 0 ∧ t.regime.unwant = 0 ∧
        t.regime.attempts ≤ wp.crankAttemptsMax.toNat := by
      rw [hregime, ha]; exact ⟨rfl, rfl, Nat.min_le_right _ _⟩
    have hrecompute : a.split.recompute = true := by rw [ha]
    rw [← htables, htables'] at hfixed
    obtain ⟨hwant, hunwant, hattempts⟩ := hregime'
    obtain ⟨h1, h2, h3, h4⟩ := hfixed
    rw [htables', hstatic', hsplit]
    refine ⟨?_, ?_, ?_, hlatched, staticRecord_eq wp, hwant, hunwant, ?_, hrecompute, h1.trans hrecompute, h2, h3, h4⟩
    · simp only [TableStore.shadow]; cases s.tables.selector <;> rfl
    · simp only [TableStore.shadow]; cases s.tables.selector <;> rfl
    · simp only [TableStore.shadow]; cases s.tables.selector <;> rfl
    · show (t.regime.attempts : Int) ≤ max 0 wp.crankAttemptsMax
      omega

end Sys2Proof.Machine
end

section
/-! PROOFS. The Split Engine at a completion: the record it stores (R91), the bands (R69, R70), the interpolation (R71,
R72) and the contents it places (R88 to R90). -/

namespace Sys2Proof.Machine

/-! ### What a completion changes -/

/-- Filling the slots leaves the slots of the replies. -/
theorem State.fillSlots_replies (s : State) (cyc : CycleInputs) (x : CycleResult) :
    (s.fillSlots cyc x).ports = { s.ports with slots := (s.fillSlots cyc x).ports.slots } ∧
      (s.fillSlots cyc x).ports.slots.replySupervisor = s.ports.slots.replySupervisor ∧
      (s.fillSlots cyc x).ports.slots.replyService = s.ports.slots.replyService := by
  unfold State.fillSlots
  split <;> exact ⟨rfl, rfl, rfl⟩

theorem State.completeCycle_tables (s : State) (cyc : CycleInputs) : (s.completeCycle cyc).tables =
    { s.tables with cellFault := (computeCycle s.tables s.split cyc).cellFault } := by
  simp [State.completeCycle]

/-- A completion changes the cell-fault record, the split and regime states, the watches and the slots only. -/
theorem State.completeCycle_frame (s : State) (cyc : CycleInputs) :
    let t := s.completeCycle cyc
    t = { s with
      tables := { s.tables with cellFault := t.tables.cellFault }
      split := t.split, regime := t.regime, watch := t.watch, freeIx := t.freeIx
      ports := { s.ports with slots := t.ports.slots } } := by
  intro t
  obtain ⟨hintake, hlimits, hfaults, hforward, hmgmt, hid, hrate, hreset, hpending⟩ := s.completeCycle_keeps cyc
  have htables : t.tables = { s.tables with cellFault := t.tables.cellFault } := by
    rw [show t.tables = _ from s.completeCycle_tables cyc]
  have hports : t.ports = { s.ports with slots := t.ports.slots } := by
    rw [show t.ports = _ from s.completeCycle_ports cyc]
    exact (s.fillSlots_replies cyc _).1
  rw [← htables, ← hports, ← hintake, ← hlimits, ← hfaults, ← hforward, ← hmgmt, ← hid, ← hrate, ← hreset, ← hpending]

/-- The record a completion stores at the head of the history. -/
theorem State.completeCycle_newest (s : State) (cyc : CycleInputs) : (s.completeCycle cyc).split.history.newest =
    recordOf s.split cyc (computeCycle s.tables s.split cyc) := by
  rw [State.completeCycle_split]
  rfl

/-! ### The projection -/

/-- Whatever the form, the shares and the unmet torque add up to the demand (R79 to R82). -/
theorem project_sum (cyc : CycleInputs) (prev d raw : Int) :
    let p := project cyc prev d raw
    p.engine + p.driver + p.u = d := by
  unfold project
  split
  · simp only [projectCoupled]; omega
  · simp only [projectCrank]; omega
  · simp only [projectPlain]; omega
  · simp only [projectZero]; omega

theorem Mode.form_coupled_iff (m : Mode) :
    m.form = .coupled ↔ m = .hybridShared ∨ m = .releaseRampDown ∨ m = .limpEngineDrive := by
  cases m <;> decide

/-- Settles O25: a completion pushes its record, and the frame of a completion holds the rest. -/
theorem cycleCompletionStoresTheRecord : Obligations.CycleCompletionStoresTheRecord := by
  intro s cyc hreset hcycle
  have hslots := s.fillSlots_replies cyc (computeCycle s.tables s.split cyc)
  refine ⟨_, exec_splitCycleCompletion hreset hcycle, s.completeCycle_frame cyc, ?_⟩
  rw [State.completeCycle_split, State.completeCycle_ports]
  refine ⟨project_sum _ _ _ _, rfl, rfl, rfl, rfl, rfl, rfl, rfl, rfl, rfl, rfl, rfl, rfl, rfl, rfl, rfl, ?prev,
    hslots.2⟩
  case prev =>
    refine ite_congr (propext cyc.mode.form_coupled_iff) (fun _ => rfl) fun _ => rfl

/-! ### Lanes and slew (R76 to R82) -/

/-- The engine command is the engine share: outside the coupled form both are 0. -/
theorem engineTorque_project (cyc : CycleInputs) (prev d raw : Int) :
    engineTorque cyc (project cyc prev d raw) = (project cyc prev d raw).engine := by
  unfold engineTorque project
  cases hform : cyc.mode.form <;> rfl

theorem project_engine_of_not_coupled {cyc : CycleInputs} (h : cyc.mode.form ≠ .coupled) (prev d raw : Int) :
    (project cyc prev d raw).engine = 0 := by
  unfold project
  cases hform : cyc.mode.form with
  | coupled => exact absurd hform h
  | crank | plain | zero => rfl

/-- The engine stays in its lanes, and in the slew window while that is not empty. -/
theorem projectCoupled_engine {cyc : CycleInputs} {prev d raw : Int} (h : cyc.lanes.engLo ≤ cyc.lanes.engHi) :
    let p := projectCoupled cyc prev d raw
    (cyc.lanes.engLo ≤ p.engine ∧ p.engine ≤ cyc.lanes.engHi) ∧
      (slewLo cyc.lanes prev cyc.wp.engStep ≤ slewHi cyc.lanes prev cyc.wp.engStep →
        slewLo cyc.lanes prev cyc.wp.engStep ≤ p.engine ∧ p.engine ≤ slewHi cyc.lanes prev cyc.wp.engStep) := by
  simp only [projectCoupled]
  generalize hlo : slewLo cyc.lanes prev cyc.wp.engStep = wlo
  generalize hhi : slewHi cyc.lanes prev cyc.wp.engStep = whi
  have hinside : ∀ x, wlo ≤ x → x ≤ whi → cyc.lanes.engLo ≤ x ∧ x ≤ cyc.lanes.engHi := by
    intro x h1 h2
    unfold slewLo at hlo
    unfold slewHi at hhi
    omega
  by_cases hw : wlo ≤ whi
  · have hclamp x := clamp_bounds x hw
    simp only [hw, decide_true, Bool.true_and, if_true, forall_const]
    split
    · exact ⟨hinside _ (hclamp _).1 (hclamp _).2, hclamp _⟩
    · exact ⟨hinside _ (hclamp _).1 (hclamp _).2, hclamp _⟩
  · simp only [hw, decide_false, Bool.false_and, Bool.false_eq_true, if_false, false_implies, and_true]
    exact clamp_bounds _ h

/-- The motor stays in its lanes, and at 0 in STANDBY, SAFE and LIMP_ENGINE. -/
theorem project_motor {cyc : CycleInputs} (h : cyc.lanes.InRange) (prev d raw : Int) :
    let p := project cyc prev d raw
    (cyc.lanes.motLo ≤ p.motor ∧ p.motor ≤ cyc.lanes.motHi) ∧
      (cyc.mode = .standby ∨ cyc.mode = .safe ∨ cyc.mode.regime = .limpEngine → p.motor = 0) := by
  have hlanes : cyc.lanes.motLo ≤ 0 ∧ 0 ≤ cyc.lanes.motHi := ⟨h.motLo.2, h.motHi.1⟩
  have hclamp x := clamp_bounds x (hlanes.1.trans hlanes.2)
  unfold project
  cases hform : cyc.mode.form with
  | coupled =>
    simp only [projectCoupled, motorWindow]
    by_cases hlimp : cyc.mode.regime = .limpEngine
    · simp only [hlimp, if_true]
      have hzero x := clamp_bounds x (le_refl (0 : Int))
      exact ⟨⟨hlanes.1.trans (hzero _).1, (hzero _).2.trans hlanes.2⟩, fun _ => le_antisymm (hzero _).2 (hzero _).1⟩
    · simp only [hlimp, if_false]
      refine ⟨hclamp _, fun hm => ?_⟩
      rcases hm with hm | hm | hm
      · rw [hm] at hform; cases hform
      · rw [hm] at hform; cases hform
      · exact hm.elim
  | crank | plain =>
    refine ⟨hclamp _, fun hm => ?_⟩
    generalize cyc.mode = m at *
    cases m <;> simp_all [Mode.form, Mode.regime]
  | zero => exact ⟨hlanes, fun _ => rfl⟩

/-- Settles O26: the bounds of the projection, read off the record of the completion. -/
theorem emittedTorquesRespectLanesAndSlew : Obligations.EmittedTorquesRespectLanesAndSlew := by
  intro s t cyc hreset hcycle hlanes ht x
  cases (exec_splitCycleCompletion hreset hcycle).symm.trans ht
  have hx : x = recordOf s.split cyc (computeCycle s.tables s.split cyc) := s.completeCycle_newest cyc
  obtain ⟨d, raw, hp⟩ : ∃ d raw,
    (computeCycle s.tables s.split cyc).projection = project cyc s.split.prev d raw := ⟨_, _, rfl⟩
  have hengine : x.engineCmd = (project cyc s.split.prev d raw).engine := by
    rw [hx, ← hp]
    exact engineTorque_project _ _ _ _
  have hshare : x.engineShare = (project cyc s.split.prev d raw).engine := by rw [hx, ← hp]; rfl
  have hmotor : x.motorCmd = (project cyc s.split.prev d raw).motor := by rw [hx, ← hp]; rfl
  obtain ⟨⟨hmotLo, hmotHi⟩, hstill⟩ := project_motor hlanes s.split.prev d raw
  rw [← Mode.form_coupled_iff, hengine, hshare, hmotor]
  by_cases hform : cyc.mode.form = .coupled
  · have hcoupled : project cyc s.split.prev d raw = projectCoupled cyc s.split.prev d raw := by
      simp only [project, hform]
    obtain ⟨⟨hlo, hhi⟩, hwindow⟩ := projectCoupled_engine (prev := s.split.prev) (d := d) (raw := raw)
      (hlanes.engLo.2.trans hlanes.engHi.1)
    rw [← hcoupled] at hlo hhi hwindow
    refine ⟨hlo, hhi, hmotLo, hmotHi, rfl, fun _ => hform, hstill, fun _ hopen => ?_⟩
    obtain ⟨hbelow, habove⟩ := hwindow hopen
    exact ⟨(le_max_right _ _).trans hbelow, habove.trans (min_le_right _ _)⟩
  · rw [project_engine_of_not_coupled hform]
    exact ⟨hlanes.engLo.2, hlanes.engHi.1, hmotLo, hmotHi, rfl, fun h => absurd rfl h, hstill,
      fun h => absurd h hform⟩

/-! ### Contents (R88 to R90) -/

/-- What a completion leaves in the slots it fills. -/
theorem State.fillSlots_filled (s : State) (cyc : CycleInputs) (x : CycleResult) :
    let t := (s.fillSlots cyc x).ports.slots
    let old := s.ports.slots
    let p := x.projection
    t.engineCmd = old.engineCmd.place ⟨identOf cyc.wp.idEngineCmd, engineCmdOf cyc p.engine⟩ ∧
      t.inverterCmd = old.inverterCmd.place ⟨identOf cyc.wp.idInverterCmd, inverterCmdOf cyc p.motor⟩ ∧
      t.clutchCmd = old.clutchCmd.place ⟨identOf cyc.wp.idClutchCmd, clutchCmdOf cyc p.engine⟩ ∧
      t.brakeShare = old.brakeShare.place ⟨identOf cyc.wp.idBrakeShare, brakeShareOf p⟩ ∧
      t.splitReport = if cyc.wp.reportEnable = 1 then
        old.splitReport.place ⟨identOf cyc.wp.idSplitReport, splitReportOf cyc x.d p⟩ else old.splitReport := by
  unfold State.fillSlots
  simp only
  split <;> exact ⟨rfl, rfl, rfl, rfl, rfl⟩

theorem brakeShareOf_eq (p : Projection) : brakeShareOf p = .brakeShare (max 0 (-p.u)) (max 0 (-p.motor)) := by
  have hmax (v : Int) : (if v < 0 then -v else 0) = max 0 (-v) := by split <;> omega
  rw [brakeShareOf, hmax, hmax]

/-- Settles O27: the slots a completion fills, each content by its row. -/
theorem commandsFollowTheRegimeTable : Obligations.CommandsFollowTheRegimeTable := by
  intro s t cyc hreset hcycle ht x placed eng inv clu
  cases (exec_splitCycleCompletion hreset hcycle).symm.trans ht
  obtain ⟨hengine, hinverter, hclutch, hbrake, hreport⟩ :=
    s.fillSlots_filled cyc (computeCycle s.tables s.split cyc)
  rw [← State.completeCycle_ports] at hengine hinverter hclutch hbrake hreport
  have hx : x = recordOf s.split cyc (computeCycle s.tables s.split cyc) := s.completeCycle_newest cyc
  have hcmd : x.engineCmd = x.engineShare := by
    rw [hx]
    exact engineTorque_project _ _ _ _
  have hplaced (old : Slot) (c : Content) : placed old c = old.place c := by cases old <;> rfl
  have heng : eng = engineCmdOf cyc x.engineShare :=
    (show eng = engineCmdOf cyc x.engineCmd from rfl).trans (congrArg (engineCmdOf cyc) hcmd)
  have hinv : inv = inverterCmdOf cyc x.motorCmd := by
    simp only [inv, inverterCmdOf]
    cases cyc.mode <;> rfl
  have hclu : clu = clutchCmdOf cyc x.engineShare := by
    simp only [clu, hcmd, clutchCmdOf, Int.abs_eq_natAbs]
    cases cyc.mode <;> rfl
  rw [hengine, hinverter, hclutch, hbrake, hreport, heng, hinv, hclu, brakeShareOf_eq, hplaced, hplaced, hplaced,
    hplaced, hplaced, hx]
  exact ⟨rfl, rfl, rfl, rfl, rfl⟩

/-! ### Bands (R69, R70) -/

theorem freshBand_eq_count (w : WorkingParams) (soc : Int) :
    freshBand w soc = ([w.t1, w.t2, w.t3].filter fun t => decide (t ≤ soc)).length := by
  unfold freshBand
  by_cases h1 : w.t1 ≤ soc <;> by_cases h2 : w.t2 ≤ soc <;> by_cases h3 : w.t3 ≤ soc <;> simp [h1, h2, h3]

/-- The thresholds stand in the places 76 to 78 of the walk order. -/
theorem WorkingParams.threshold_eq_at (w : WorkingParams) {n : Nat} (h1 : 1 ≤ n) (h3 : n ≤ 3) :
    w.threshold n = w.at (75 + n) := by
  obtain rfl | rfl | rfl : n = 1 ∨ n = 2 ∨ n = 3 := by omega
  all_goals rfl

/-- Valid thresholds ascend, with the hysteresis between neighbours no matter. -/
theorem WorkingParams.Valid.threshold_lt {w : WorkingParams} (h : w.Valid) {n : Nat} (h1 : 1 ≤ n) (h2 : n ≤ 2) :
    w.threshold n < w.threshold (n + 1) ∧ 0 ≤ w.bandHyst := by
  have hhyst : 0 ≤ w.at 12 := (h.param 12 (by decide)).1
  refine ⟨?_, hhyst⟩
  obtain rfl | rfl : n = 1 ∨ n = 2 := by omega
  · exact h.thresh12
  · exact h.thresh23

/-- Settles O28: the fresh band is a count, the moved band takes the step its tests allow, and a completion records the
band selected. -/
theorem bandSelectionFollowsTheThresholds : Obligations.BandSelectionFollowsTheThresholds := by
  refine ⟨fun cyc b hmark => ?fresh, fun cyc b hmark hvalid hb => ?moved, fun cyc hmark hwp => ?worked,
    fun s cyc hreset hcycle => ⟨_, exec_splitCycleCompletion hreset hcycle, ?completed⟩⟩
  case fresh => rw [selectBand, if_pos hmark, freshBand_eq_count]
  case moved =>
    intro t
    have hselect : selectBand cyc b = movedBand cyc.wp b cyc.soc := if_neg (ne_true_of_eq_false hmark)
    have hup (h : b < 3) : cyc.wp.threshold (b + 1) = t (b + 1) := cyc.wp.threshold_eq_at (by omega) (by omega)
    have hdown (h : 0 < b) : cyc.wp.threshold b = t b := cyc.wp.threshold_eq_at h hb
    rw [hselect, movedBand]
    refine ⟨fun h3 hreach => ?up, fun h0 hbelow => ?down, fun hnotUp hnotDown => ?kept⟩
    case up => exact if_pos ⟨h3, (hup h3).symm ▸ hreach⟩
    case down =>
      have hnotUp : ¬(b < 3 ∧ cyc.wp.threshold (b + 1) + cyc.wp.bandHyst ≤ cyc.soc) := by
        rintro ⟨h3, hreach⟩
        obtain ⟨hlt, hhyst⟩ := hvalid.threshold_lt h0 (by omega)
        rw [hdown h0] at hlt
        omega
      rw [if_neg hnotUp, if_pos ⟨h0, (hdown h0).symm ▸ hbelow⟩]
    case kept =>
      rw [if_neg, if_neg]
      · rintro ⟨h0, hbelow⟩
        rw [hdown h0] at hbelow
        omega
      · rintro ⟨h3, hreach⟩
        rw [hup h3] at hreach
        omega
  case worked =>
    have hselect (b : Nat) : selectBand cyc b = movedBand State.reset.tables.wp b cyc.soc := by
      rw [selectBand, if_neg (ne_true_of_eq_false hmark), hwp]
    refine ⟨fun h => ?_, fun h => ?_, fun h => ?_, fun h => ?_, fun h => ?_⟩ <;> rw [hselect, h] <;> decide
  case completed =>
    rw [State.completeCycle_split]
    refine ⟨rfl, rfl, ?_⟩
    simp [SplitState.completed]

/-! ### Interpolation (R71, R72) -/

/-- The search from `k` down ends at the last breakpoint at most `x`. -/
theorem lastAtMost_eq {bp : Nat → Int} {x : Int} {i : Nat} (hi : bp i ≤ x) :
    ∀ {k : Nat}, i ≤ k → (∀ j, i < j → j ≤ k → x < bp j) → lastAtMost bp x k = i
  | 0, hk, _ => (Nat.le_zero.1 hk).symm
  | k + 1, hk, hafter => by
    rw [lastAtMost]
    obtain rfl | hlt := hk.eq_or_lt
    · exact if_pos hi
    · rw [if_neg (not_le_of_gt (hafter (k + 1) hlt le_rfl))]
      exact lastAtMost_eq hi (Nat.le_of_lt_succ hlt) fun j hij hjk => hafter j hij (Nat.le_succ_of_le hjk)

theorem le_of_ascending {bp : Nat → Int} {n : Nat} (h : ∀ i, i + 1 < n → bp i < bp (i + 1)) {i j : Nat} (hij : i ≤ j)
    (hj : j < n) : bp i ≤ bp j := by
  induction j, hij using Nat.le_induction with
  | base => exact le_rfl
  | succ j _ ih => exact (ih (by omega)).trans (h j hj).le

/-- A quotient rounded half up lies within half of the divisor of its number. -/
theorem roundHalfUp_spec {num den : Int} (h : 0 < den) :
    2 * den * roundHalfUp num den ≤ 2 * num + den ∧ 2 * num + den < 2 * den * (roundHalfUp num den + 1) := by
  have hdiv := Int.mul_ediv_add_emod num den
  have hlow := Int.emod_nonneg num h.ne'
  have hhigh := Int.emod_lt_of_pos num h
  unfold roundHalfUp
  generalize num / den = q at *
  have hassoc : 2 * den * q = 2 * (den * q) := by ring
  have hassoc1 : 2 * den * (q + 1) = 2 * (den * q) + 2 * den := by ring
  have hassoc2 : 2 * den * (q + 1 + 1) = 2 * (den * q) + 4 * den := by ring
  split
  · rw [hassoc1, hassoc2]; omega
  · rw [hassoc, hassoc1]; omega

/-- A mean rounded half up lies between bounds of the mean. -/
theorem roundHalfUp_bounds {num den lo hi : Int} (h : 0 < den) (hlo : lo * den ≤ num) (hhi : num ≤ hi * den) :
    lo ≤ roundHalfUp num den ∧ roundHalfUp num den ≤ hi := by
  obtain ⟨hbelow, habove⟩ := roundHalfUp_spec (num := num) h
  constructor
  · by_contra hlt
    have := mul_le_mul_of_nonneg_left (show roundHalfUp num den + 1 ≤ lo by omega) h.le
    linarith
  · by_contra hgt
    have := mul_le_mul_of_nonneg_left (show hi + 1 ≤ roundHalfUp num den by omega) h.le
    linarith

/-- A weighted sum of values lies between the sums of the bounds. -/
theorem weighted_bounds {a b c d v00 v10 v01 v11 lo hi : Int} (ha : 0 ≤ a) (hb : 0 ≤ b) (hc : 0 ≤ c) (hd : 0 ≤ d)
    (h00 : lo ≤ v00 ∧ v00 ≤ hi) (h10 : lo ≤ v10 ∧ v10 ≤ hi) (h01 : lo ≤ v01 ∧ v01 ≤ hi) (h11 : lo ≤ v11 ∧ v11 ≤ hi) :
    lo * (a + b + c + d) ≤ v00 * a + v10 * b + v01 * c + v11 * d ∧
      v00 * a + v10 * b + v01 * c + v11 * d ≤ hi * (a + b + c + d) := by
  have hmul {v w : Int} (hw : 0 ≤ w) (hv : lo ≤ v ∧ v ≤ hi) : lo * w ≤ v * w ∧ v * w ≤ hi * w :=
    ⟨mul_le_mul_of_nonneg_right hv.1 hw, mul_le_mul_of_nonneg_right hv.2 hw⟩
  have := hmul ha h00
  have := hmul hb h10
  have := hmul hc h01
  have := hmul hd h11
  constructor <;> linarith

/-- What a completion records of the interpolation, and the cell-fault record it leaves. -/
theorem State.completeCycle_interpolated (s : State) (cyc : CycleInputs) :
    let t := s.completeCycle cyc
    let x := t.split.history.newest
    (x.e, x.c, t.tables.cellFault) = interpolate (s.tables.bank cyc.bank) cyc x.band x.d s.tables.cellFault := by
  intro t x
  rw [show x = _ from s.completeCycle_newest cyc, show t.tables = _ from s.completeCycle_tables cyc]
  rfl

/-- Settles O29: the place on an axis, the rounded mean of the corners, the corners read in order, and the record. -/
theorem interpolationOfTheFourCorners : Obligations.InterpolationOfTheFourCorners := by
  refine ⟨fun bp n x hn hasc => ⟨fun h => if_pos h, fun i hi hat hbelow => ?inside, fun hlast => ?beyond⟩,
    ?mean,
    ?corners,
    fun s cyc hreset hcycle => ⟨_, exec_splitCycleCompletion hreset hcycle, s.completeCycle_interpolated cyc⟩⟩
  case inside =>
    have hfirst : ¬x < bp 0 := not_lt_of_ge ((le_of_ascending hasc (Nat.zero_le i) (by omega)).trans hat)
    have hlast : ¬bp (n - 1) ≤ x :=
      not_le_of_gt (hbelow.trans_le (le_of_ascending hasc (j := n - 1) (by omega) (by omega)))
    have hindex : lastAtMost bp x (n - 2) = i := lastAtMost_eq hat (by omega) fun j hij hj =>
      hbelow.trans_le (le_of_ascending hasc hij (by omega))
    rw [locate, if_neg hfirst, if_neg hlast, hindex]
  case beyond =>
    have hfirst : ¬x < bp 0 := not_lt_of_ge ((le_of_ascending hasc (Nat.zero_le _) (by omega)).trans hlast)
    rw [locate, if_neg hfirst, if_pos hlast]
  case mean =>
    intro x y v00 v10 v01 v11 lo hi hxw hxo hxo' hyw hyo hyo' h00 h00' h10 h10' h01 h01' h11 h11' w sum e
    have hw : 0 < w := mul_pos hxw hyw
    obtain ⟨hlo, hhi⟩ := weighted_bounds (mul_nonneg (sub_nonneg.2 hxo') (sub_nonneg.2 hyo'))
      (mul_nonneg hxo (sub_nonneg.2 hyo')) (mul_nonneg (sub_nonneg.2 hxo') hyo) (mul_nonneg hxo hyo)
      ⟨h00, h00'⟩ ⟨h10, h10'⟩ ⟨h01, h01'⟩ ⟨h11, h11'⟩
    have hsum : v00 * ((x.width - x.offset) * (y.width - y.offset)) + v10 * (x.offset * (y.width - y.offset)) +
        v01 * ((x.width - x.offset) * y.offset) + v11 * (x.offset * y.offset) = sum := by
      simp only [sum, mul_assoc]
    have hweight : (x.width - x.offset) * (y.width - y.offset) + x.offset * (y.width - y.offset) +
        (x.width - x.offset) * y.offset + x.offset * y.offset = w := by
      simp only [w]
      ring
    rw [hsum, hweight] at hlo hhi
    obtain ⟨hbelow, habove⟩ := roundHalfUp_spec (num := sum) hw
    exact ⟨hbelow, habove, roundHalfUp_bounds hw hlo hhi⟩
  case corners =>
    intro bank cyc band d cf x y cell used noted i j
    refine ⟨fun hd => ?_, fun hd => if_neg (not_lt_of_ge hd)⟩
    rw [interpolate, if_pos hd]
    simp only [readCorner_eq]
    rfl

end Sys2Proof.Machine
end

section
/-! PROOFS. The Split Engine at a completion: the raw split (R74) and the four forms with their binding sets (R76 to
R83). -/

namespace Sys2Proof.Machine

/-! ### The raw split (R74) -/

/-- A quotient of a number that is not negative, rounded half away from zero, is the floor of it and a half. -/
theorem roundHalfAway_thousand {num : Int} (h : 0 ≤ num) : roundHalfAway num 1000 = (2 * num + 1000) / 2000 := by
  rw [roundHalfAway, if_pos h, roundHalfUp]
  split <;> omega

/-! ### Members of the binding set (R83) -/

section
variable (b : Binding) (before after : Int)

@[simp] theorem Binding.motClamp_motHi : (b.motClamp before after).motHi = (b.motHi || decide (after < before)) := by
  unfold Binding.motClamp
  by_cases h : after < before
  · simp [h]
  · by_cases h' : before < after <;> simp [h, h']

@[simp] theorem Binding.motClamp_motLo : (b.motClamp before after).motLo = (b.motLo || decide (before < after)) := by
  unfold Binding.motClamp
  by_cases h : after < before
  · simp [h, h.le]
  · by_cases h' : before < after <;> simp [h, h']

@[simp] theorem Binding.motClamp_engine : (b.motClamp before after).engHi = b.engHi ∧
    (b.motClamp before after).engLo = b.engLo ∧ (b.motClamp before after).engSlew = b.engSlew := by
  unfold Binding.motClamp
  split_ifs <;> exact ⟨rfl, rfl, rfl⟩

@[simp] theorem Binding.engClamp_engHi : (b.engClamp before after).engHi = (b.engHi || decide (after < before)) := by
  unfold Binding.engClamp
  by_cases h : after < before
  · simp [h]
  · by_cases h' : before < after <;> simp [h, h']

@[simp] theorem Binding.engClamp_engLo : (b.engClamp before after).engLo = (b.engLo || decide (before < after)) := by
  unfold Binding.engClamp
  by_cases h : after < before
  · simp [h, h.le]
  · by_cases h' : before < after <;> simp [h, h']

@[simp] theorem Binding.engClamp_others : (b.engClamp before after).motHi = b.motHi ∧
    (b.engClamp before after).motLo = b.motLo ∧ (b.engClamp before after).engSlew = b.engSlew := by
  unfold Binding.engClamp
  split_ifs <;> exact ⟨rfl, rfl, rfl⟩

@[simp] theorem Binding.slewClamp_engSlew :
    (b.slewClamp before after).engSlew = (b.engSlew || decide (after ≠ before)) := by
  unfold Binding.slewClamp
  by_cases h : after = before <;> simp [h]

@[simp] theorem Binding.slewClamp_others : (b.slewClamp before after).engHi = b.engHi ∧
    (b.slewClamp before after).engLo = b.engLo ∧ (b.slewClamp before after).motHi = b.motHi ∧
    (b.slewClamp before after).motLo = b.motLo := by
  unfold Binding.slewClamp
  split <;> exact ⟨rfl, rfl, rfl, rfl⟩

variable (l : Lanes) (prev step : Int)

@[simp] theorem Binding.rebalance_engHi : (b.rebalance l prev step before after).engHi =
    (b.engHi || decide (after < before ∧ after = l.engHi)) := by
  unfold Binding.rebalance
  by_cases h : after < before
  · simp [h]
  · by_cases h' : before < after <;> simp [h, h']

@[simp] theorem Binding.rebalance_engLo : (b.rebalance l prev step before after).engLo =
    (b.engLo || decide (before < after ∧ after = l.engLo)) := by
  unfold Binding.rebalance
  by_cases h : after < before
  · simp [h, h.le]
  · by_cases h' : before < after <;> simp [h, h']

@[simp] theorem Binding.rebalance_engSlew : (b.rebalance l prev step before after).engSlew =
    (b.engSlew || decide (after < before ∧ after = prev + step ∨ before < after ∧ after = prev - step)) := by
  unfold Binding.rebalance
  by_cases h : after < before
  · simp [h, not_lt_of_gt h]
  · by_cases h' : before < after <;> simp [h, h']

@[simp] theorem Binding.rebalance_motor : (b.rebalance l prev step before after).motHi = b.motHi ∧
    (b.rebalance l prev step before after).motLo = b.motLo := by
  unfold Binding.rebalance
  split_ifs <;> exact ⟨rfl, rfl⟩

end

/-! ### The forms -/

/-- What a form gives: the four torques. -/
def Projection.Gives (p : Projection) (engine motor driver u : Int) : Prop :=
  p.engine = engine ∧ p.motor = motor ∧ p.driver = driver ∧ p.u = u

/-- A binding set records exactly these members. -/
def Binding.Records (b : Binding) (engHi engLo motHi motLo engSlew : Prop) : Prop :=
  (b.engHi = true ↔ engHi) ∧ (b.engLo = true ↔ engLo) ∧ (b.motHi = true ↔ motHi) ∧ (b.motLo = true ↔ motLo) ∧
    (b.engSlew = true ↔ engSlew)

/-- A clamp of the motor torque alone records the motor members alone. -/
theorem emptyBinding_motClamp (before after : Int) :
    (emptyBinding.motClamp before after).Records False False (after < before) (before < after) False := by
  simp [Binding.Records, emptyBinding]

/-- The coupled form (R76 to R78) step by step, and the members each step records. -/
theorem projectCoupled_spec (cyc : CycleInputs) (prev d raw mot1 : Int) :
    let p := projectCoupled cyc prev d raw
    let l := cyc.lanes
    let wlo := max l.engLo (prev - cyc.wp.engStep)
    let whi := min l.engHi (prev + cyc.wp.engStep)
    let eng1 := clamp raw l.engLo l.engHi
    let eng2 := if wlo ≤ whi then clamp eng1 wlo whi else clamp prev l.engLo l.engHi
    let want := d - eng2
    mot1 = clamp want (motorWindow cyc).1 (motorWindow cyc).2 →
    let again : Prop := mot1 ≠ want ∧ wlo ≤ whi
    let rest := d - mot1
    let eng3 := if mot1 ≠ want ∧ wlo ≤ whi then clamp rest wlo whi else eng2
    p.Gives eng3 mot1 mot1 (d - eng3 - mot1) ∧
      p.binding.Records
        (eng1 < raw ∨ (whi < wlo ∧ eng2 < prev) ∨ (again ∧ eng3 < rest ∧ eng3 = l.engHi))
        (raw < eng1 ∨ (whi < wlo ∧ prev < eng2) ∨ (again ∧ rest < eng3 ∧ eng3 = l.engLo))
        (mot1 < want) (want < mot1)
        ((wlo ≤ whi ∧ eng2 ≠ eng1) ∨ (again ∧ eng3 < rest ∧ eng3 = prev + cyc.wp.engStep) ∨
          (again ∧ rest < eng3 ∧ eng3 = prev - cyc.wp.engStep)) := by
  intro p l wlo whi eng1 eng2 want hmot1 again rest eng3
  have hp : p = ⟨eng3, mot1, mot1, d - eng3 - mot1,
      let b1 := emptyBinding.engClamp raw eng1
      let b3 := (if wlo ≤ whi then b1.slewClamp eng1 eng2 else b1.engClamp prev eng2).motClamp want mot1
      if mot1 ≠ want ∧ wlo ≤ whi then b3.rebalance l prev cyc.wp.engStep rest eng3 else b3⟩ := by
    subst hmot1
    unfold p projectCoupled
    simp only [decide_eq_true_eq, Bool.and_eq_true, and_comm (a := slewLo _ _ _ ≤ _)]
    rfl
  rw [hp]
  refine ⟨⟨rfl, rfl, rfl, rfl⟩, ?_⟩
  unfold Binding.Records
  by_cases hw : wlo ≤ whi
  · have hopen : ¬whi < wlo := not_lt_of_ge hw
    by_cases hmove : mot1 = want
    · simp [again, hw, hopen, hmove, emptyBinding]
    · simp [again, hw, hopen, hmove, emptyBinding, or_and_left]
  · simp [again, hw, lt_of_not_ge hw, emptyBinding]

theorem projectPlain_spec (cyc : CycleInputs) (d : Int) :
    let p := projectPlain cyc d
    let m := clamp d cyc.lanes.motLo cyc.lanes.motHi
    p.Gives 0 m m (d - m) ∧ p.binding.Records False False (m < d) (d < m) False :=
  ⟨⟨rfl, rfl, rfl, rfl⟩, emptyBinding_motClamp _ _⟩

theorem projectCrank_spec (cyc : CycleInputs) (d : Int) :
    let p := projectCrank cyc d
    let want := d + cyc.wp.crankReserve
    let m := clamp want cyc.lanes.motLo cyc.lanes.motHi
    p.Gives 0 m (m - cyc.wp.crankReserve) (d - (m - cyc.wp.crankReserve)) ∧
      p.binding.Records False False (m < want) (want < m) False :=
  ⟨⟨rfl, rfl, rfl, rfl⟩, emptyBinding_motClamp _ _⟩

theorem projectZero_spec (d : Int) :
    let p := projectZero d
    p.Gives 0 0 0 d ∧ p.binding.Records False False False False False :=
  ⟨⟨rfl, rfl, rfl, rfl⟩, by simp [Binding.Records, projectZero, emptyBinding]⟩

/-- The record of a completed cycle holds the projection of its own D and raw split. -/
theorem State.completeCycle_projected (s : State) (cyc : CycleInputs) :
    let x := (s.completeCycle cyc).split.history.newest
    let p := project cyc s.split.prev x.d x.engRaw
    x.engRaw = engineRaw cyc x.d x.e x.c ∧
      (∀ engine motor driver u, p.Gives engine motor driver u → x.engineCmd = engine ∧ x.engineShare = engine ∧
        x.motorCmd = motor ∧ x.driverShare = driver ∧ x.u = u) ∧ x.binding = p.binding := by
  rw [State.completeCycle_newest]
  refine ⟨rfl, ?_, rfl⟩
  rintro engine motor driver u ⟨rfl, rfl, rfl, rfl⟩
  exact ⟨engineTorque_project _ _ _ _, rfl, rfl, rfl, rfl⟩

/-- Settles O30: the record holds the projection of the form, and each form gives its torques and its members. -/
theorem torquesFollowTheForms : Obligations.TorquesFollowTheForms := by
  intro s cyc hreset hcycle
  refine ⟨_, exec_splitCycleCompletion hreset hcycle, ?_⟩
  intro x l within gives binds
  obtain ⟨hraw, hgives, hbinding⟩ : x.engRaw = engineRaw cyc x.d x.e x.c ∧ (∀ engine motor driver u,
      (project cyc s.split.prev x.d x.engRaw).Gives engine motor driver u → gives engine motor driver u) ∧
      x.binding = (project cyc s.split.prev x.d x.engRaw).binding := s.completeCycle_projected cyc
  have hform {p : Projection} {engine motor driver u : Int} {b1 b2 b3 b4 b5 : Prop}
      (hp : project cyc s.split.prev x.d x.engRaw = p)
      (h : p.Gives engine motor driver u ∧ p.binding.Records b1 b2 b3 b4 b5) :
      gives engine motor driver u ∧ binds b1 b2 b3 b4 b5 := by
    subst hp
    exact ⟨hgives _ _ _ _ h.1, (congrArg (fun b => Binding.Records b b1 b2 b3 b4 b5) hbinding).mpr h.2⟩
  refine ⟨fun hm => ?rampDown, fun hm hd => ?noDemand, fun hm hd he => ?demand, ?forms⟩
  case rampDown => rw [hraw, engineRaw, if_pos hm]
  case noDemand => rw [hraw, engineRaw, if_neg hm, if_neg (not_lt_of_ge hd)]
  case demand => rw [hraw, engineRaw, if_neg hm, if_pos hd, roundHalfAway_thousand (mul_nonneg hd.le he)]
  case forms =>
    cases hm : cyc.mode with
    | electric | crankStarter | syncIdle | syncMatch | hybridLocking | releaseOpening | limpMotor =>
      exact hform (by rw [project, hm]; rfl) (projectPlain_spec cyc x.d)
    | standby | safe | limpEngineStart => exact hform (by rw [project, hm]; rfl) (projectZero_spec x.d)
    | crankClutch => exact hform (by rw [project, hm]; rfl) (projectCrank_spec cyc x.d)
    | hybridShared | releaseRampDown | limpEngineDrive =>
      exact hform (by rw [project, hm]; rfl)
        (projectCoupled_spec cyc s.split.prev x.d x.engRaw _ (by rw [motorWindow, hm]; rfl))

end Sys2Proof.Machine
end

section
/-! PROOFS. The Regime Controller at a cycle start (R99): the stages of settling one after the other, and how STANDBY is
left (R96, R105, R127). -/

namespace Sys2Proof.Machine

/-! ### The stages -/

section
variable {wp : WorkingParams} {i : SettleInputs} {r : RegimeState}

/-- Steps 5 and 6 of R99: what the CLUTCH_LOCK reading, the shaft speed and a lapsed ENGINE make of a regime. -/
def RegimeState.settleMoves (wp : WorkingParams) (i : SettleInputs) (r : RegimeState) : RegimeState :=
  (((r.settleLock wp i).settleSyncPhase wp i).settleUnlock wp i).settleStall wp i

/-- Settling takes every stage where no SAFE consequence and no SAFE regime end it at step 1. -/
theorem RegimeState.settle_eq_stages (hc : i.cons ≠ .safe) (hm : r.mode ≠ .safe) : r.settle wp i =
    (((r.settleReady wp i).settleLimp wp i).settleStandbyExit wp i).settleMoves wp i := by
  unfold RegimeState.settle
  rw [if_neg hc, if_neg hm]
  rfl

theorem RegimeState.settleReady_of_ready (h : i.ready = true) : r.settleReady wp i = r := if_pos h

/-- Step 4 is for STANDBY alone. -/
theorem RegimeState.settleStandbyExit_of_ne (h : r.mode ≠ .standby) : r.settleStandbyExit wp i = r :=
  if_neg fun hs => h hs.1

/-- Without leave to go, STANDBY stays through steps 3 and 4. -/
theorem RegimeState.settleLimp_standby (hm : r.mode = .standby) (hmay : i.mayLeaveStandby = false) :
    (r.settleLimp wp i).settleStandbyExit wp i = r := by
  have hlimp : r.settleLimp wp i = r := by
    unfold RegimeState.settleLimp
    cases i.cons <;> simp [hm, hmay]
  rw [hlimp, RegimeState.settleStandbyExit, if_neg]
  simp [hmay]

/-- Step 5 and the unlock-speed moves of step 6 are for HYBRID and RAMP_DOWN alone. -/
theorem RegimeState.settleLock_apart (h : r.mode.regime ≠ .hybrid) (hramp : r.mode ≠ .releaseRampDown) :
    r.settleLock wp i = r ∧ r.settleUnlock wp i = r := by
  unfold RegimeState.settleLock RegimeState.settleUnlock
  generalize hm : r.mode = m at h hramp
  cases m
  case hybridLocking | hybridShared => exact absurd rfl h
  case releaseRampDown => exact absurd rfl hramp
  all_goals exact ⟨ite_self _, ite_self _⟩

theorem RegimeState.settleLock_hybrid (h : r.mode.regime = .hybrid) :
    r.settleLock wp i = (if i.lock then r.enterToward wp .releaseOpening .electric else r) ∧
      r.settleUnlock wp i = if i.speed < wp.unlockSpeed then r.enter wp .syncIdle else r := by
  unfold RegimeState.settleLock RegimeState.settleUnlock
  generalize hm : r.mode = m at h
  cases m
  case hybridLocking | hybridShared => exact ⟨rfl, rfl⟩
  all_goals cases h

theorem RegimeState.settleLock_rampDown (h : r.mode = .releaseRampDown) :
    r.settleLock wp i = (if i.lock then r.enter wp .releaseOpening else r) ∧
      r.settleUnlock wp i = if i.speed < wp.unlockSpeed then r.enter wp .releaseOpening else r := by
  unfold RegimeState.settleLock RegimeState.settleUnlock
  rw [h]
  exact ⟨rfl, rfl⟩

theorem RegimeState.settleSyncPhase_apart (h : r.mode.regime ≠ .sync) : r.settleSyncPhase wp i = r :=
  if_neg fun hs => h hs.1

/-- A stall by regime (R119). -/
theorem RegimeState.stall_eq : r.stall wp =
    if r.mode.regime = .sync ∨ r.mode.regime = .hybrid then r.enterToward wp .releaseOpening .electric
    else if r.mode = .releaseRampDown then r.enter wp .releaseOpening
    else if r.mode = .limpEngineDrive then r.enter wp .limpEngineStart
    else r := by
  unfold RegimeState.stall
  cases r.mode <;> rfl

theorem RegimeState.settleStall_engaged (h : r.mode.regime = .sync ∨ r.mode.regime = .hybrid) :
    r.settleStall wp i = if i.engineLapsed then r.enterToward wp .releaseOpening .electric else r := by
  rw [RegimeState.settleStall, RegimeState.stall_eq, if_pos h]

/-! ### Steps 5 and 6 by regime -/

/-- STANDBY, ELECTRIC, CRANK, RELEASE OPENING, LIMP_ENGINE START, LIMP_MOTOR and SAFE have no moves of steps 5 and 6. -/
def Mode.still : Mode → Bool
  | .standby | .electric | .crankStarter | .crankClutch | .releaseOpening | .limpEngineStart | .limpMotor
  | .safe => true
  | .syncIdle | .syncMatch | .hybridLocking | .hybridShared | .releaseRampDown | .limpEngineDrive => false

theorem Mode.still_spec {m : Mode} (h : m.still = true) : m.regime ≠ .sync ∧ m.regime ≠ .hybrid ∧
    m ≠ .releaseRampDown ∧ m ≠ .limpEngineDrive := by
  cases m
  case syncIdle | syncMatch | hybridLocking | hybridShared | releaseRampDown | limpEngineDrive => cases h
  all_goals decide

theorem RegimeState.settle_still (h : r.mode.still = true) : r.settleLock wp i = r ∧ r.settleSyncPhase wp i = r ∧
    r.settleUnlock wp i = r ∧ r.settleStall wp i = r := by
  obtain ⟨hsync, hhybrid, hramp, hdrive⟩ := Mode.still_spec h
  obtain ⟨hlock, hunlock⟩ := RegimeState.settleLock_apart (wp := wp) (i := i) hhybrid hramp
  refine ⟨hlock, RegimeState.settleSyncPhase_apart hsync, hunlock, ?_⟩
  rw [RegimeState.settleStall, RegimeState.stall_eq, if_neg (not_or.2 ⟨hsync, hhybrid⟩), if_neg hramp, if_neg hdrive,
    ite_self]

theorem RegimeState.settleMoves_still (h : r.mode.still = true) : r.settleMoves wp i = r := by
  obtain ⟨hlock, hphase, hunlock, hstall⟩ := RegimeState.settle_still (wp := wp) (i := i) h
  rw [RegimeState.settleMoves, hlock, hphase, hunlock, hstall]

/-- In LIMP_ENGINE DRIVE only a stall counts. -/
theorem RegimeState.settleMoves_drive (h : r.mode = .limpEngineDrive) :
    r.settleMoves wp i = if i.engineLapsed then r.enter wp .limpEngineStart else r := by
  obtain ⟨hlock, hunlock⟩ :=
    RegimeState.settleLock_apart (r := r) (wp := wp) (i := i) (by rw [h]; decide) (by rw [h]; decide)
  rw [RegimeState.settleMoves, hlock, RegimeState.settleSyncPhase_apart (by rw [h]; decide), hunlock,
    RegimeState.settleStall, RegimeState.stall_eq, h]
  rfl

/-- In RAMP_DOWN every move enters OPENING. -/
theorem RegimeState.settleMoves_rampDown (h : r.mode = .releaseRampDown) : r.settleMoves wp i =
    if i.lock = true ∨ i.speed < wp.unlockSpeed ∨ i.engineLapsed = true then r.enter wp .releaseOpening else r := by
  obtain ⟨hlock, hunlock⟩ := RegimeState.settleLock_rampDown (wp := wp) (i := i) h
  have hphase : r.settleSyncPhase wp i = r := RegimeState.settleSyncPhase_apart (by rw [h]; decide)
  have hstall : r.settleStall wp i = if i.engineLapsed then r.enter wp .releaseOpening else r := by
    rw [RegimeState.settleStall, RegimeState.stall_eq, h]
    rfl
  obtain ⟨-, hphase', hunlock', hstall'⟩ :=
    RegimeState.settle_still (r := r.enter wp .releaseOpening) (wp := wp) (i := i) rfl
  rw [RegimeState.settleMoves, hlock]
  by_cases hl : i.lock = true
  · rw [if_pos hl, if_pos (.inl hl), hphase', hunlock', hstall']
  · rw [if_neg hl, hphase, hunlock]
    by_cases hs : i.speed < wp.unlockSpeed
    · rw [if_pos hs, if_pos (.inr (.inl hs)), hstall']
    · rw [if_neg hs, hstall]
      simp only [hl, hs, false_or, Bool.false_eq_true]

/-- In HYBRID the CLUTCH_LOCK reading comes first; below `unlock_speed` it is SYNC IDLE, also where a stall follows. -/
theorem RegimeState.settleMoves_hybrid (h : r.mode.regime = .hybrid) : r.settleMoves wp i =
    if i.lock then r.enterToward wp .releaseOpening .electric
    else
      let x := if i.speed < wp.unlockSpeed then r.enter wp .syncIdle else r
      if i.engineLapsed then x.enterToward wp .releaseOpening .electric else x := by
  obtain ⟨hlock, hunlock⟩ := RegimeState.settleLock_hybrid (wp := wp) (i := i) h
  have hphase : r.settleSyncPhase wp i = r := RegimeState.settleSyncPhase_apart (by rw [h]; decide)
  rw [RegimeState.settleMoves, hlock]
  by_cases hl : i.lock = true
  · obtain ⟨-, hphase', hunlock', hstall'⟩ :=
      RegimeState.settle_still (r := r.enterToward wp .releaseOpening .electric) (wp := wp) (i := i) rfl
    rw [if_pos hl, if_pos hl, hphase', hunlock', hstall']
  · rw [if_neg hl, if_neg hl, hphase, hunlock, RegimeState.settleStall_engaged]
    split
    · exact .inl rfl
    · exact .inr h

/-- In SYNC the phase follows the shaft speed, then a stall counts. -/
theorem RegimeState.settleMoves_sync (h : r.mode.regime = .sync) : r.settleMoves wp i =
    let x := if r.mode = syncModeFor wp i.speed then r else r.enter wp (syncModeFor wp i.speed)
    if i.engineLapsed then x.enterToward wp .releaseOpening .electric else x := by
  have hapart {x : RegimeState} (hx : x.mode.regime = .sync) : x.settleLock wp i = x ∧ x.settleUnlock wp i = x :=
    RegimeState.settleLock_apart (by rw [hx]; decide) (by intro hm; rw [hm] at hx; cases hx)
  have hphase : r.settleSyncPhase wp i =
      if r.mode = syncModeFor wp i.speed then r else r.enter wp (syncModeFor wp i.speed) := by
    unfold RegimeState.settleSyncPhase
    simp only [h, true_and, ne_eq, ite_not]
  have hsync : (r.settleSyncPhase wp i).mode.regime = .sync := by
    rw [hphase]
    split
    · exact h
    · exact syncModeFor_regime _ _
  rw [RegimeState.settleMoves, (hapart h).1, (hapart hsync).2,
    RegimeState.settleStall_engaged (.inl hsync), hphase]

/-! ### STANDBY -/

/-- STANDBY is left, when it may be, for what the consequence names; ENGINE that has lapsed is not read as running. -/
theorem RegimeState.settle_standby_leaves (hm : r.mode = .standby) (hmay : i.mayLeaveStandby = true)
    (hengine : i.running = true → i.engineLapsed = false) (hc : i.cons ≠ .safe) :
    (r.settle wp i).mode = (match i.cons with
      | .none => .electric
      | .limpEngine => if i.running then .limpEngineDrive else .limpEngineStart
      | .limpMotor => .limpMotor
      | .safe => .standby) := by
  have hready : r.settleReady wp i = r := by
    unfold RegimeState.settleReady
    rw [hm]
    exact ite_self _
  rw [RegimeState.settle_eq_stages hc (by rw [hm]; decide), hready, RegimeState.settleLimp]
  cases hcons : i.cons with
  | safe => exact absurd hcons hc
  | none =>
    simp only [hm]
    rw [RegimeState.settleStandbyExit, if_pos ⟨hm, hcons, hmay⟩, RegimeState.settleMoves_still rfl]
    rfl
  | limpMotor =>
    simp only [hm, hmay, if_true]
    rw [RegimeState.settleStandbyExit_of_ne (by simp), RegimeState.settleMoves_still rfl]
    rfl
  | limpEngine =>
    simp only [hm, hmay, if_true, RegimeState.enterLimpEngine]
    cases hrun : i.running with
    | false =>
      rw [RegimeState.settleStandbyExit_of_ne (by simp), RegimeState.settleMoves_still rfl]
      rfl
    | true =>
      rw [RegimeState.settleStandbyExit_of_ne (by simp), RegimeState.settleMoves_drive rfl, hengine hrun]
      rfl

end

/-! ### The combined consequence (R96) -/

/-- Some source in ACTIVE or AWAIT_ACK gives this consequence, its entry as read. -/
def State.Gives (s : State) (c : Consequence) : Prop := ∃ i : Fin 12,
  (s.faults.sources[i].state = .active ∨ s.faults.sources[i].state = .awaitAck) ∧
    (s.tables.readFaultEntry i).consequence = c

theorem State.gives_iff (s : State) (c : Consequence) :
    ((entriesInForce s.faults s.tables).any fun e => decide (e.consequence = c)) = true ↔ s.Gives c := by
  simp only [List.any_eq_true, decide_eq_true_eq, mem_entriesInForce, State.Gives]
  exact ⟨fun ⟨_, ⟨i, hi, rfl⟩, hc⟩ => ⟨i, hi, hc⟩, fun ⟨i, hi, hc⟩ => ⟨_, ⟨i, hi, rfl⟩, hc⟩⟩

/-- The CLUTCH_LOCK reading (R97), each entry as read. -/
theorem State.lockReading_iff (s : State) : s.lockReading = true ↔ ∃ i : Fin 12,
    (s.faults.sources[i].state = .active ∨ s.faults.sources[i].state = .awaitAck) ∧
      (s.tables.readFaultEntry i).forced.clutchLock = true := by
  simp only [State.lockReading, Machine.lockReading, List.any_eq_true, mem_entriesInForce]
  exact ⟨fun ⟨_, ⟨i, hi, rfl⟩, hl⟩ => ⟨i, hi, hl⟩, fun ⟨i, hi, hl⟩ => ⟨_, ⟨i, hi, rfl⟩, hl⟩⟩

open Classical in
/-- The lines of R96 in their order. -/
theorem State.consequence_eq (s : State) : s.consequence =
    if s.Gives .safe ∨ (s.Gives .limpEngine ∧ s.Gives .limpMotor) ∨ (s.Gives .limpEngine ∧ s.lockReading = true)
      then .safe
    else if s.Gives .limpEngine then .limpEngine
    else if s.Gives .limpMotor then .limpMotor
    else .none := by
  unfold State.consequence combinedConsequence
  simp only [Bool.and_eq_true, s.gives_iff, ite_or]
  rfl

/-! ### Leaving STANDBY (R105) -/

/-- What lets STANDBY be left, but for the consequence. -/
theorem State.mayLeaveStandby_iff (s : State) : s.mayLeaveStandby = true ↔
    s.split.started = true ∧ s.intake.live .demand = true ∧ s.intake.demand.ready = true ∧
      s.tables.verified s.tables.selector = true ∧ (∀ pos seen, s.tables.walk ≠ .running .pinReset pos seen) ∧
      ∀ r : Role, (s.intake.streams.get r).state ≠ .never := by
  have hwalk : s.tables.walk.isPinReset = false ↔ ∀ pos seen, s.tables.walk ≠ .running .pinReset pos seen := by
    cases s.tables.walk with
    | running kind pos seen => cases kind <;> simp [Walk.isPinReset]
    | _ => simp [Walk.isPinReset]
  have hseen : s.intake.allSeen = true ↔ ∀ r : Role, (s.intake.streams.get r).state ≠ .never := by
    simp only [Intake.allSeen, List.all_eq_true, decide_eq_true_eq]
    exact ⟨fun h r => h r (by cases r <;> decide), fun h r _ => h r⟩
  unfold State.mayLeaveStandby
  simp only [Intake.effDemand_eq, Bool.and_eq_true, Bool.not_eq_true', hwalk, hseen, and_assoc]

/-- ENGINE is not read as running once it has lapsed (R37). -/
theorem State.settleInputs_running (s : State) (h : s.settleInputs.running = true) :
    s.settleInputs.engineLapsed = false := by
  have hlive : s.intake.live .engine = true := by
    simp only [State.settleInputs, Intake.effEngine_eq, Bool.and_eq_true] at h
    exact h.1
  refine decide_eq_false fun hlapsed => ?_
  have hstate : (s.intake.streams.get .engine).state = .lapsed := hlapsed
  rw [Intake.live, hstate] at hlive
  cases hlive

/-- Settles O33: the lines of R96 in their order; then STANDBY at a start, with and without leave to go. -/
theorem standbyIsLeftExactlyWhenAllowed : Obligations.StandbyIsLeftExactlyWhenAllowed := by
  refine ⟨fun s => ?consequence, fun s k hreset hcycle hwaiting hm =>
    ⟨_, exec_splitCycleStart hreset hcycle hwaiting, ?leaves⟩⟩
  case consequence =>
    intro gives locks
    have hlocks : locks ↔ s.lockReading = true := s.lockReading_iff.symm
    have hgives (c : Consequence) : gives c = s.Gives c := rfl
    simp only [hgives, hlocks]
    rw [s.consequence_eq]
    refine ⟨fun h => if_pos (.inl h), fun h h' => if_pos (.inr (.inl ⟨h, h'⟩)),
      fun h h' => if_pos (.inr (.inr ⟨h, h'⟩)),
      fun hsafe hengine hmotor hlock => ?_, fun hsafe hengine hmotor => ?_, fun hsafe hengine hmotor => ?_⟩
    · rw [if_neg (by tauto), if_pos hengine]
    · rw [if_neg (by tauto), if_neg hengine, if_pos hmotor]
    · rw [if_neg (by tauto), if_neg hengine, if_neg hmotor]
  case leaves =>
    obtain ⟨a, w, u, hregime, -⟩ := s.startCycle_regime k
    have hmode : (s.startCycle k).regime.mode = (s.regime.settle s.tables.wp s.settleInputs).mode := by rw [hregime]
    intro live
    have hrunning : s.settleInputs.running = (live .engine && s.intake.engine.running) := by
      simp only [State.settleInputs, Intake.effEngine_eq]
      rfl
    rw [hmode, ← hrunning]
    by_cases hleaves : s.mayLeaveStandby = true ∧ s.consequence ≠ .safe
    · obtain ⟨hmay, hc⟩ := hleaves
      have hentered := RegimeState.settle_standby_leaves (wp := s.tables.wp) hm hmay s.settleInputs_running hc
      have haway : (s.regime.settle s.tables.wp s.settleInputs).mode ≠ .standby := by
        rw [hentered, show s.settleInputs.cons = s.consequence from rfl]
        split
        · decide
        · split <;> decide
        · decide
        · next hsafe => exact absurd hsafe hc
      refine ⟨iff_of_true haway ?_, fun _ => hentered⟩
      obtain ⟨h1, h2, h3, h4, h5, h6⟩ := s.mayLeaveStandby_iff.1 hmay
      exact ⟨h1, h2, h3, h4, h5, h6, hc⟩
    · have hstays : (s.regime.settle s.tables.wp s.settleInputs).mode = .standby := by
        by_cases hc : s.consequence = .safe
        · rw [RegimeState.settle_of_safe_standby hc hm, hm]
        · have hmay : s.mayLeaveStandby = false := Bool.eq_false_iff.2 fun h => hleaves ⟨h, hc⟩
          rw [RegimeState.settle_standby_stays hm hmay, hm]
      refine ⟨iff_of_false (fun h => h hstays) ?_, fun h => absurd hstays h⟩
      rintro ⟨h1, h2, h3, h4, h5, h6, hc⟩
      exact hleaves ⟨s.mayLeaveStandby_iff.2 ⟨h1, h2, h3, h4, h5, h6⟩, hc⟩

end Sys2Proof.Machine
end

section
/-! PROOFS. The Regime Controller at a cycle start (R99): what a clear READY, a LIMP consequence, the CLUTCH_LOCK
reading, the shaft speed and a stall make of each regime. -/

namespace Sys2Proof.Machine

section
variable {wp : WorkingParams} {i : SettleInputs} {r : RegimeState}

/-! ### Entries as records -/

theorem RegimeState.enter_opening_of_sync (h : r.mode.regime = .sync) : r.enter wp .releaseOpening = { r with
    mode := .releaseOpening, crankT := .stopped, syncT := .stopped, clutchT := .running wp.clutchTimeout.toNat,
    safeNLow := false, matchCount := 0 } := by
  unfold RegimeState.enter
  simp only [h, if_true]
  rfl

theorem RegimeState.enter_opening_of_not_sync (h : r.mode.regime ≠ .sync) : r.enter wp .releaseOpening = { r with
    mode := .releaseOpening, crankT := .stopped, syncT := .stopped, clutchT := .running wp.clutchTimeout.toNat,
    safeNLow := false } := by
  unfold RegimeState.enter
  simp only [h, if_false]
  rfl

/-! ### A clear READY (R104) -/

/-- The regimes a clear READY takes to STANDBY at once. -/
def Mode.Parks (m : Mode) : Prop :=
  m.regime = .electric ∨ m.regime = .crank ∨ m.regime = .limpEngine ∨ m.regime = .limpMotor

theorem RegimeState.settleReady_eq (h : i.ready = false) : r.settleReady wp i =
    if r.mode.regime = .standby ∨ r.mode.regime = .safe then r
    else if r.mode.regime = .sync then r.enterToward wp .releaseOpening .standby
    else if r.mode.regime = .hybrid then r.enterToward wp .releaseRampDown .standby
    else if r.mode.regime = .release then { r with dest := .standby }
    else r.enter wp .standby := by
  unfold RegimeState.settleReady
  rw [if_neg (ne_true_of_eq_false h)]
  cases r.mode <;> rfl

/-- Where READY does not park the regime, it stays or is in RELEASE, and an entry to a LIMP regime goes as before. -/
theorem RegimeState.settleReady_unparked (h : i.ready = true ∨ ¬r.mode.Parks) :
    ((r.settleReady wp i).mode.regime = r.mode.regime ∨ (r.settleReady wp i).mode.regime = .release) ∧
      ∀ m, m = .limpEngineStart ∨ m = .limpEngineDrive ∨ m = .limpMotor →
        (r.settleReady wp i).enter wp m = r.enter wp m := by
  cases hready : i.ready with
  | true =>
    rw [RegimeState.settleReady_of_ready hready]
    exact ⟨.inl rfl, fun _ _ => rfl⟩
  | false =>
    have hparks : ¬r.mode.Parks := h.resolve_left (ne_true_of_eq_false hready)
    rw [RegimeState.settleReady_eq hready]
    cases hregime : r.mode.regime with
    | standby | safe => exact ⟨.inl hregime, fun _ _ => rfl⟩
    | release => exact ⟨.inl hregime, by rintro m (rfl | rfl | rfl) <;> rfl⟩
    | sync | hybrid => exact ⟨.inr rfl, by rintro m (rfl | rfl | rfl) <;> rfl⟩
    | electric => exact absurd (.inl hregime) hparks
    | crank => exact absurd (.inr (.inl hregime)) hparks
    | limpEngine => exact absurd (.inr (.inr (.inl hregime))) hparks
    | limpMotor => exact absurd (.inr (.inr (.inr hregime))) hparks

/-! ### The LIMP regimes (R120 to R122) -/

/-- With no consequence the LIMP regimes are left. -/
theorem RegimeState.settleLimp_none (h : i.cons = .none) : r.settleLimp wp i =
    if r.mode = .limpEngineDrive then
      if i.clutch = .locked ∧ i.lock = false then r.enter wp .hybridShared else r.enter wp (syncModeFor wp i.speed)
    else if r.mode = .limpEngineStart ∨ r.mode = .limpMotor then r.enter wp .electric
    else r := by
  unfold RegimeState.settleLimp
  rw [h]
  cases r.mode <;> rfl

theorem RegimeState.settleLimp_none_other (h : i.cons = .none) (hm : r.mode.regime ≠ .limpEngine)
    (hm' : r.mode.regime ≠ .limpMotor) : r.settleLimp wp i = r := by
  rw [RegimeState.settleLimp_none h, if_neg, if_neg]
  · rintro (h | h)
    · exact hm (by rw [h]; rfl)
    · exact hm' (by rw [h]; rfl)
  · exact fun h => hm (by rw [h]; rfl)

/-- A clear READY parks ELECTRIC, CRANK and the LIMP regimes in STANDBY, which is then not left. -/
theorem RegimeState.settle_parks (hc : i.cons ≠ .safe) (hready : i.ready = false) (hmay : i.mayLeaveStandby = false)
    (h : r.mode.Parks) : r.settle wp i = r.enter wp .standby := by
  have hsafe : r.mode ≠ .safe := by
    intro hm
    rw [Mode.Parks, hm] at h
    revert h
    decide
  have hparked : r.settleReady wp i = r.enter wp .standby := by
    rw [RegimeState.settleReady_eq hready]
    rcases h with h | h | h | h <;> rw [h] <;> rfl
  rw [RegimeState.settle_eq_stages hc hsafe, hparked, RegimeState.settleLimp_standby rfl hmay,
    RegimeState.settleMoves_still rfl]

/-- With no consequence and the regime out of STANDBY and the LIMP regimes, READY is followed by steps 5 and 6. -/
theorem RegimeState.settle_none {x : RegimeState} (hc : i.cons = .none) (hsafe : r.mode ≠ .safe)
    (hx : r.settleReady wp i = x) (h1 : x.mode ≠ .standby) (h2 : x.mode.regime ≠ .limpEngine)
    (h3 : x.mode.regime ≠ .limpMotor) : r.settle wp i = x.settleMoves wp i := by
  rw [RegimeState.settle_eq_stages (by rw [hc]; decide) hsafe, hx, RegimeState.settleLimp_none_other hc h2 h3,
    RegimeState.settleStandbyExit_of_ne h1]

theorem limpEngine_phase {m : Mode} (h : m.regime = .limpEngine) : m = .limpEngineStart ∨ m = .limpEngineDrive := by
  revert h
  cases m <;> decide

/-- The LIMP regime of a consequence, by the running flag for LIMP_ENGINE. -/
def SettleInputs.limpMode (i : SettleInputs) : Mode :=
  if i.cons = .limpMotor then .limpMotor else if i.running then .limpEngineDrive else .limpEngineStart

theorem SettleInputs.limpMode_regime (i : SettleInputs) :
    i.limpMode.regime = if i.cons = .limpMotor then .limpMotor else .limpEngine := by
  unfold SettleInputs.limpMode
  split_ifs <;> rfl

/-- A LIMP consequence enters its regime from every other that READY does not park. -/
theorem RegimeState.settle_limp (hc : i.cons = .limpEngine ∨ i.cons = .limpMotor) (hstandby : r.mode ≠ .standby)
    (hsafe : r.mode ≠ .safe) (hready : i.ready = true ∨ ¬r.mode.Parks)
    (hengine : i.running = true → i.engineLapsed = false) (hm : r.mode.regime ≠ i.limpMode.regime) :
    r.settle wp i = r.enter wp i.limpMode := by
  obtain ⟨hregime, henter⟩ := RegimeState.settleReady_unparked (wp := wp) hready
  generalize hx : r.settleReady wp i = x at hregime henter
  have hx1 : x.mode ≠ .standby := by
    intro h
    rw [h] at hregime
    rcases hregime with h | h
    · exact hstandby (by revert h; cases r.mode <;> decide)
    · cases h
  have hlimp : x.settleLimp wp i = r.enter wp i.limpMode := by
    rw [i.limpMode_regime] at hm
    unfold RegimeState.settleLimp SettleInputs.limpMode
    rcases hc with hc | hc
    · simp only [hc, RegimeState.enterLimpEngine, reduceCtorEq, if_false, if_neg hx1] at hm ⊢
      rw [if_neg]
      · split <;> exact henter _ (by simp)
      · intro h
        rw [h] at hregime
        rcases hregime with h | h
        · exact hm h.symm
        · cases h
    · simp only [hc, if_true, if_neg hx1] at hm ⊢
      rw [if_neg]
      · exact henter _ (by simp)
      · intro h
        rw [h] at hregime
        rcases hregime with h | h
        · exact hm h.symm
        · cases h
  have hmoves : (r.enter wp i.limpMode).settleMoves wp i = r.enter wp i.limpMode := by
    unfold SettleInputs.limpMode
    split
    · exact RegimeState.settleMoves_still rfl
    · split
      · next hrun => rw [RegimeState.settleMoves_drive rfl, hengine hrun]; rfl
      · exact RegimeState.settleMoves_still rfl
  have hleft : (r.enter wp i.limpMode).mode ≠ .standby := by
    rw [RegimeState.enter_mode, SettleInputs.limpMode]
    split_ifs <;> decide
  rw [RegimeState.settle_eq_stages (by rcases hc with hc | hc <;> rw [hc] <;> decide) hsafe, hx, hlimp,
    RegimeState.settleStandbyExit_of_ne hleft, hmoves]

/-- A LIMP consequence leaves its own regime to steps 5 and 6. -/
theorem RegimeState.settle_limp_own (hc : i.cons = .limpEngine ∨ i.cons = .limpMotor) (hready : i.ready = true)
    (hm : r.mode.regime = i.limpMode.regime) : r.settle wp i = r.settleMoves wp i := by
  have hlimp : r.settleLimp wp i = r ∧ r.mode ≠ .standby ∧ r.mode ≠ .safe := by
    rw [i.limpMode_regime] at hm
    unfold RegimeState.settleLimp
    rcases hc with hc | hc
    · simp only [hc, reduceCtorEq, if_false] at hm ⊢
      have hstandby : r.mode ≠ .standby := by intro h; rw [h] at hm; cases hm
      refine ⟨by rw [if_neg hstandby, if_pos hm], hstandby, by intro h; rw [h] at hm; cases hm⟩
    · simp only [hc, if_true] at hm ⊢
      have hmotor : r.mode = .limpMotor := by revert hm; cases r.mode <;> decide
      simp [hmotor]
  rw [RegimeState.settle_eq_stages (by rcases hc with hc | hc <;> rw [hc] <;> decide) hlimp.2.2,
    RegimeState.settleReady_of_ready hready, hlimp.1, RegimeState.settleStandbyExit_of_ne hlimp.2.1]

/-- A clear READY with no consequence: SYNC opens the clutch, HYBRID ramps down and RELEASE goes on, each toward
STANDBY. -/
theorem RegimeState.settle_unready (hc : i.cons = .none) (hready : i.ready = false) :
    (r.mode.regime = .sync → r.settle wp i = r.enterToward wp .releaseOpening .standby) ∧
    (r.mode.regime = .hybrid → r.settle wp i = (r.enterToward wp .releaseRampDown .standby).settleMoves wp i) ∧
    (r.mode.regime = .release →
      r.settle wp i = RegimeState.settleMoves wp i { r with dest := .standby }) := by
  have hsettled := RegimeState.settleReady_eq (wp := wp) (r := r) hready
  refine ⟨fun hm => ?_, fun hm => ?_, fun hm => ?_⟩
  all_goals
    have hsafe : r.mode ≠ .safe := by intro h; rw [h] at hm; cases hm
    rw [hm] at hsettled
  · exact (RegimeState.settle_none (x := r.enterToward wp .releaseOpening .standby) hc hsafe hsettled nofun nofun
      nofun).trans (RegimeState.settleMoves_still rfl)
  · exact RegimeState.settle_none (x := r.enterToward wp .releaseRampDown .standby) hc hsafe hsettled nofun nofun nofun
  · have hstay : r.mode ≠ .standby := by intro h; rw [h] at hm; cases hm
    exact RegimeState.settle_none hc hsafe hsettled hstay (by rw [hm]; decide) (by rw [hm]; decide)

/-- READY and no consequence, outside STANDBY, SAFE and the LIMP regimes: steps 5 and 6 alone. -/
theorem RegimeState.settle_ready (hc : i.cons = .none) (hready : i.ready = true)
    (h : r.mode.regime = .electric ∨ r.mode.regime = .crank ∨ r.mode.regime = .sync ∨ r.mode.regime = .hybrid ∨
      r.mode.regime = .release) : r.settle wp i = r.settleMoves wp i := by
  have hother (m : Mode) (hm : r.mode = m) : m ≠ .standby ∧ m ≠ .safe ∧ m.regime ≠ .limpEngine ∧
      m.regime ≠ .limpMotor := by
    rw [hm] at h
    revert h
    cases m <;> decide
  obtain ⟨hstandby, hsafe, hengine, hmotor⟩ := hother r.mode rfl
  exact RegimeState.settle_none hc hsafe (RegimeState.settleReady_of_ready hready) hstandby hengine hmotor

/-- READY and no consequence in a LIMP regime: it is left, and steps 5 and 6 follow. -/
theorem RegimeState.settle_limp_left (hc : i.cons = .none) (hready : i.ready = true) :
    (r.mode = .limpEngineStart ∨ r.mode = .limpMotor → r.settle wp i = r.enter wp .electric) ∧
    (r.mode = .limpEngineDrive → i.clutch = .locked ∧ i.lock = false →
      r.settle wp i = (r.enter wp .hybridShared).settleMoves wp i) ∧
    (r.mode = .limpEngineDrive → ¬(i.clutch = .locked ∧ i.lock = false) →
      r.settle wp i = (r.enter wp (syncModeFor wp i.speed)).settleMoves wp i) := by
  have hstages {x : RegimeState} (hm : r.mode ≠ .safe) (hx : r.settleLimp wp i = x) (hx' : x.mode ≠ .standby) :
      r.settle wp i = x.settleMoves wp i := by
    rw [RegimeState.settle_eq_stages (by rw [hc]; decide) hm, RegimeState.settleReady_of_ready hready, hx,
      RegimeState.settleStandbyExit_of_ne hx']
  have hlimp := RegimeState.settleLimp_none (wp := wp) (r := r) hc
  refine ⟨fun hm => ?_, fun hm hclutch => ?_, fun hm hclutch => ?_⟩
  · have hdrive : r.mode ≠ .limpEngineDrive := by rcases hm with hm | hm <;> rw [hm] <;> decide
    rw [hstages (by rcases hm with hm | hm <;> rw [hm] <;> decide)
      (by rw [hlimp, if_neg hdrive, if_pos hm]) (by simp), RegimeState.settleMoves_still rfl]
  · exact hstages (by rw [hm]; decide) (by rw [hlimp, if_pos hm, if_pos hclutch]) (by simp)
  · refine hstages (by rw [hm]; decide) (by rw [hlimp, if_pos hm, if_neg hclutch]) fun h => ?_
    have hsync := syncModeFor_regime wp i.speed
    rw [show syncModeFor wp i.speed = .standby from h] at hsync
    cases hsync

end

/-! ### A start -/

/-- What settling reads, by the state of each stream (R37, R95). -/
theorem State.settleInputs_spec (s : State) :
    let i := s.settleInputs
    i.cons = s.consequence ∧ i.lock = s.lockReading ∧
      (i.ready = true ↔ s.intake.live .demand = true ∧ s.intake.demand.ready = true) ∧
      i.speed = (if s.intake.live .inverter then s.intake.inverter.speed else 0) ∧
      i.running = (s.intake.live .engine && s.intake.engine.running) ∧
      i.clutch = (if s.intake.live .clutch then s.intake.clutch.state else .slipping) ∧
      (i.engineLapsed = true ↔ s.intake.streams.engine.state = .lapsed) ∧
      (i.ready = false → i.mayLeaveStandby = false) := by
  refine ⟨rfl, rfl, ?_, ?_, ?_, ?_, decide_eq_true_iff, fun h => ?_⟩
  · simp only [State.settleInputs, Intake.effDemand_eq, Bool.and_eq_true]
  · simp only [State.settleInputs, Intake.effInverter_eq]
  · simp only [State.settleInputs, Intake.effEngine_eq]
  · simp only [State.settleInputs, Intake.effClutch_eq]
  · have hready : s.intake.effDemand.ready = false := h
    simp [State.settleInputs, State.mayLeaveStandby, hready]

/-- A start leaves the regime it settled, but for the counts that a swap lowers or clears (R19, R110). -/
theorem State.startCycle_becomes (s : State) (k : CycleKind) {x : RegimeState}
    (h : s.regime.settle s.tables.wp s.settleInputs = x) :
    let t := s.startCycle k
    t.regime = { x with attempts := t.regime.attempts, want := t.regime.want, unwant := t.regime.unwant } ∧
      t.regime.attempts ≤ x.attempts ∧ (s.tables.swapPending = false → t.regime = x) := by
  obtain ⟨a, w, u, hregime, ha, hx⟩ := s.startCycle_regime k
  rw [h] at hregime ha hx
  intro t
  have ht : t.regime = { x with attempts := a, want := w, unwant := u } := hregime
  exact ⟨by rw [ht], by rw [ht]; exact ha, hx⟩

/-- Settles O34: each clause is one settled regime, written as the record it is. -/
theorem readyAndLimpAreSettledAtCycleStarts : Obligations.ReadyAndLimpAreSettledAtCycleStarts := by
  intro s k hreset hcycle hwaiting hc hstandby hsafe
  refine ⟨_, exec_splitCycleStart hreset hcycle hwaiting, ?_⟩
  have hbecomes {x : RegimeState} := s.startCycle_becomes k (x := x)
  obtain ⟨hcons, hlock, hready, hspeed, hrunning, hclutch, hlapsed, hmay⟩ := s.settleInputs_spec
  have hengine := s.settleInputs_running
  generalize s.startCycle k = t at hbecomes ⊢
  generalize s.settleInputs = i at *
  intro r wp live ready running speed clutch lapsed slow parks becomes entered opening limp
  replace hready : i.ready = true ↔ ready := hready
  replace hspeed : i.speed = speed := hspeed
  replace hrunning : i.running = running := hrunning
  replace hclutch : i.clutch = clutch := hclutch
  replace hlapsed : i.engineLapsed = true ↔ lapsed := hlapsed
  replace hbecomes {x : RegimeState} (h : r.settle wp i = x) : becomes x := hbecomes h
  have hunready (h : ¬ready) : i.ready = false := Bool.eq_false_iff.2 fun h' => h (hready.1 h')
  rw [← hcons] at hc
  rw [← hcons, ← hlock]
  refine ⟨fun hr hparks => ?parked, fun hr hnone => ⟨fun hm => ?sync, fun hm => ?hybrid, fun hm => ?opening⟩,
    fun hengineCons hr => ?limpEngine, fun hmotor hr => ?limpMotor, fun hnone hr => ?none⟩
  case parked =>
    exact hbecomes (RegimeState.settle_parks hc (hunready hr) (hmay (hunready hr)) hparks)
  case sync =>
    refine hbecomes (((RegimeState.settle_unready hnone (hunready hr)).1 hm).trans ?_)
    rw [RegimeState.enterToward, RegimeState.enter_opening_of_sync hm]
  case hybrid =>
    have hmoves : ∃ x : RegimeState, r.settle wp i = x.settleMoves wp i ∧ x.mode = .releaseRampDown ∧
        x.enter wp .releaseOpening = opening r.matchCount .standby ∧
        (r.mode.regime = .hybrid → x = { entered .releaseRampDown with dest := .standby }) ∧
        (r.mode = .releaseRampDown → x = { r with dest := .standby }) := by
      obtain ⟨-, hhybrid, hrelease⟩ := RegimeState.settle_unready (wp := wp) (r := r) hnone (hunready hr)
      rcases hm with hm | hm
      · exact ⟨_, hhybrid hm, rfl, rfl, fun _ => rfl, fun h => by rw [h] at hm; cases hm⟩
      · refine ⟨_, hrelease (by rw [hm]; rfl), hm, ?_, fun h => ?_, fun _ => rfl⟩
        case refine_2 => rw [hm] at h; cases h
        exact RegimeState.enter_opening_of_not_sync (r := { r with dest := .standby }) (by
          show r.mode.regime ≠ _
          rw [hm]
          decide)
    obtain ⟨x, hx, hramp, hopening, hshared, hstays⟩ := hmoves
    have hif := RegimeState.settleMoves_rampDown (wp := wp) (i := i) hramp
    simp only [hspeed, hlapsed] at hif
    refine ⟨fun h => hbecomes (hx.trans ((hif.trans (if_pos h)).trans hopening)),
      fun hl hs he hm => hbecomes (hx.trans ((hif.trans (if_neg ?_)).trans (hshared hm))),
      fun hl hs he hm => hbecomes (hx.trans ((hif.trans (if_neg ?_)).trans (hstays hm)))⟩
    all_goals
      rintro (h | h | h)
      · rw [hl] at h; cases h
      · exact hs h
      · exact he h
  case opening =>
    have hrelease := (RegimeState.settle_unready (wp := wp) (r := r) hnone (hunready hr)).2.2 (by rw [hm]; rfl)
    have hstill : r.mode.still = true := by rw [hm]; rfl
    exact hbecomes (hrelease.trans (RegimeState.settleMoves_still (r := { r with dest := .standby }) hstill))
  case limpEngine =>
    have hunparked : i.ready = true ∨ ¬r.mode.Parks := hr.imp_left hready.2
    have hown (hm : r.mode.regime = .limpEngine) : i.ready = true :=
      hunparked.resolve_right fun h => h (.inr (.inr (.inl hm)))
    have hmode : i.limpMode = if running then .limpEngineDrive else .limpEngineStart := by
      rw [SettleInputs.limpMode, hengineCons, hrunning]
      rfl
    have hregime : i.limpMode.regime = .limpEngine := by rw [i.limpMode_regime, hengineCons]; rfl
    refine ⟨fun hm => ?_, fun hm he => ?_, fun hm hstays => ?_⟩
    · refine hbecomes ((RegimeState.settle_limp (.inl hengineCons) hstandby hsafe hunparked hengine
        (by rw [hregime]; exact hm)).trans ?_)
      rw [hmode]
      cases running <;> rfl
    · have hlimp : r.mode.regime = .limpEngine := by rw [hm]; rfl
      have hsettled := RegimeState.settle_limp_own (wp := wp) (.inl hengineCons) (hown hlimp) (hlimp.trans hregime.symm)
      refine hbecomes (hsettled.trans ?_)
      rw [RegimeState.settleMoves_drive hm, if_pos (hlapsed.2 he)]
      rfl
    · refine hbecomes ((RegimeState.settle_limp_own (.inl hengineCons) (hown hm) (hm.trans hregime.symm)).trans ?_)
      rcases limpEngine_phase hm with hphase | hphase
      · exact RegimeState.settleMoves_still (by rw [hphase]; rfl)
      · rw [RegimeState.settleMoves_drive hphase, if_neg]
        rintro h
        rcases hstays with h' | h'
        · rw [hphase] at h'; cases h'
        · exact h' (hlapsed.1 h)
  case limpMotor =>
    have hunparked : i.ready = true ∨ ¬r.mode.Parks := hr.imp_left hready.2
    have hmode : i.limpMode = .limpMotor := by rw [SettleInputs.limpMode, hmotor]; rfl
    have hregime (h : r.mode.regime = .limpMotor) : r.mode = .limpMotor := by revert h; cases r.mode <;> decide
    refine ⟨fun hm => ?_, fun hm => ?_⟩
    · refine hbecomes ((RegimeState.settle_limp (.inr hmotor) hstandby hsafe hunparked hengine
        (by rw [hmode]; exact fun h => hm (hregime h))).trans ?_)
      rw [hmode]
      rfl
    · have hready' : i.ready = true := hunparked.resolve_right fun h => h (.inr (.inr (.inr (by rw [hm]; rfl))))
      refine hbecomes ((RegimeState.settle_limp_own (.inr hmotor) hready' (by rw [hm, hmode])).trans ?_)
      exact RegimeState.settleMoves_still (by rw [hm]; rfl)
  case none =>
    obtain ⟨helectric, hlocked, hopen⟩ := RegimeState.settle_limp_left (wp := wp) (r := r) hnone (hready.2 hr)
    have hslow : (i.speed < wp.unlockSpeed) = slow := by rw [hspeed]
    refine ⟨fun hm => hbecomes (helectric hm), fun hm hclutchLocked hl => ?_, fun hm hnot => ?_⟩
    · have hsettled := hlocked hm ⟨hclutch.trans hclutchLocked, hl⟩
      rw [RegimeState.settleMoves_hybrid rfl, if_neg (by rw [hl]; decide)] at hsettled
      simp only [hslow, hlapsed] at hsettled
      refine ⟨fun he hs => hbecomes (hsettled.trans ?_), fun he hs => hbecomes (hsettled.trans ?_),
        fun he => hbecomes (hsettled.trans ?_)⟩
      · rw [if_neg he, if_neg hs]; rfl
      · rw [if_neg he, if_pos hs]; rfl
      · rw [if_pos he]
        by_cases hs : slow
        · rw [if_pos hs, if_pos hs]; rfl
        · rw [if_neg hs, if_neg hs]; rfl
    · have hsettled := hopen hm (by
        rintro ⟨h1, h2⟩
        rcases hnot with h | h
        · exact h (hclutch.symm.trans h1)
        · rw [h2] at h; cases h)
      rw [RegimeState.settleMoves_sync (syncModeFor_regime _ _)] at hsettled
      simp only [RegimeState.enter_mode, if_true, hlapsed] at hsettled
      refine ⟨fun he hs => hbecomes (hsettled.trans ?_), fun he hs => hbecomes (hsettled.trans ?_),
        fun he => hbecomes (hsettled.trans ?_)⟩
      · rw [if_neg he, syncModeFor, if_pos (by rw [hspeed]; exact hs)]; rfl
      · rw [if_neg he, syncModeFor, if_neg (by rw [hspeed]; exact not_lt_of_ge hs)]; rfl
      · rw [if_pos he, RegimeState.enterToward, RegimeState.enter_opening_of_sync (syncModeFor_regime _ _)]
        unfold syncModeFor
        split <;> rfl

theorem still_of_unmoved {m : Mode} (h : m = .electric ∨ m.regime = .crank ∨ m = .releaseOpening) : m.still = true ∧
    (m.regime = .electric ∨ m.regime = .crank ∨ m.regime = .sync ∨ m.regime = .hybrid ∨ m.regime = .release) := by
  revert h
  cases m <;> decide

/-- Settles O35: READY and no consequence leave the regime to steps 5 and 6, written out for each. -/
theorem lockSpeedAndStallAreSettledAtCycleStarts : Obligations.LockSpeedAndStallAreSettledAtCycleStarts := by
  intro s k hreset hcycle hwaiting hc hdemand hset
  refine ⟨_, exec_splitCycleStart hreset hcycle hwaiting, ?_⟩
  have hbecomes {x : RegimeState} := s.startCycle_becomes k (x := x)
  obtain ⟨hcons, hlock, hready, hspeed, -, -, hlapsed, -⟩ := s.settleInputs_spec
  have hlive : s.intake.live .demand = true := by
    unfold Intake.live
    rcases hdemand with h | h <;> rw [show (s.intake.streams.get .demand).state = _ from h] <;> rfl
  have hsettle := fun h => RegimeState.settle_ready (wp := s.tables.wp) (r := s.regime) (hcons.trans hc)
    (hready.2 ⟨hlive, hset⟩) h
  generalize s.startCycle k = t at hbecomes ⊢
  generalize s.settleInputs = i at *
  intro r wp speed lapsed slow becomes entered opening
  replace hspeed : i.speed = speed := by
    rw [hspeed]
    unfold Intake.live speed
    cases hstate : s.intake.streams.inverter.state <;>
      simp [show (s.intake.streams.get .inverter).state = _ from hstate, StreamState.live]
  replace hlapsed : i.engineLapsed = true ↔ lapsed := hlapsed
  replace hbecomes {x : RegimeState} (h : r.settle wp i = x) : becomes x := hbecomes h
  rw [← hlock]
  refine ⟨fun hm => ?still, fun hm => ?hybrid, fun hm => ?rampDown, fun hm => ?sync⟩
  case still =>
    obtain ⟨hstill, hregime⟩ := still_of_unmoved hm
    exact hbecomes ((hsettle hregime).trans (RegimeState.settleMoves_still hstill))
  case hybrid =>
    have hsettled := (hsettle (.inr (.inr (.inr (.inl hm))))).trans (RegimeState.settleMoves_hybrid hm)
    have happart : r.mode.regime ≠ .sync := by rw [hm]; decide
    simp only [hspeed, hlapsed] at hsettled
    refine ⟨fun hl => hbecomes (hsettled.trans ?_), fun hl he hs => hbecomes (hsettled.trans ?_),
      fun hl he hs => hbecomes (hsettled.trans ?_), fun hl he hs => hbecomes (hsettled.trans ?_),
      fun hl he hs => hbecomes (hsettled.trans ?_)⟩
    · rw [if_pos hl, RegimeState.enterToward, RegimeState.enter_opening_of_not_sync happart]
    all_goals rw [if_neg (by rw [hl]; decide)]
    · rw [if_pos he, if_pos hs]; rfl
    · rw [if_pos he, if_neg hs, RegimeState.enterToward, RegimeState.enter_opening_of_not_sync happart]
    · rw [if_neg he, if_pos hs]; rfl
    · rw [if_neg he, if_neg hs]
  case rampDown =>
    have hrelease : r.mode.regime = .release := by rw [hm]; rfl
    have hsettled := (hsettle (.inr (.inr (.inr (.inr hrelease))))).trans (RegimeState.settleMoves_rampDown hm)
    simp only [hspeed, hlapsed] at hsettled
    refine ⟨fun h => hbecomes (hsettled.trans ?_), fun hl hs he => hbecomes (hsettled.trans (if_neg ?_))⟩
    · rw [if_pos h, RegimeState.enter_opening_of_not_sync (by rw [hrelease]; decide)]
    · rintro (h | h | h)
      · rw [hl] at h; cases h
      · exact hs h
      · exact he h
  case sync =>
    have hsettled := (hsettle (.inr (.inr (.inl hm)))).trans (RegimeState.settleMoves_sync hm)
    simp only [hlapsed] at hsettled
    refine ⟨fun he => hbecomes (hsettled.trans ?_), fun he hs => ?_, fun he hs => ?_⟩
    · rw [if_pos he, RegimeState.enterToward, RegimeState.enter_opening_of_sync]
      · split
        · rfl
        · unfold syncModeFor
          split <;> rfl
      · split
        · exact hm
        · exact syncModeFor_regime _ _
    · have hidle : syncModeFor s.tables.wp i.speed = .syncIdle := if_pos (by rw [hspeed]; exact hs)
      rw [if_neg he, hidle] at hsettled
      refine ⟨fun h => hbecomes (hsettled.trans (if_pos h)), fun h => hbecomes (hsettled.trans ?_)⟩
      rw [if_neg (by rw [show s.regime.mode = _ from h]; decide)]
      rfl
    · have hmatch : syncModeFor s.tables.wp i.speed = .syncMatch := if_neg (by rw [hspeed]; exact not_lt_of_ge hs)
      rw [if_neg he, hmatch] at hsettled
      refine ⟨fun h => hbecomes (hsettled.trans (if_pos h)), fun h => hbecomes (hsettled.trans ?_)⟩
      rw [if_neg (by rw [show s.regime.mode = _ from h]; decide)]
      rfl

end Sys2Proof.Machine
end

section
/-! PROOFS. The Regime Controller: no LOCK under the CLUTCH_LOCK reading (R97), and the tests of a cycle completion
(R100). -/

namespace Sys2Proof.Machine

/-! ### The CLUTCH_LOCK reading (R97) -/

/-- The regimes and phases whose clutch command may be LOCK (R88). -/
def Mode.commandsLock : Mode → Bool
  | .hybridLocking | .hybridShared | .releaseRampDown | .limpEngineDrive => true
  | .standby | .electric | .crankStarter | .crankClutch | .syncIdle | .syncMatch | .releaseOpening | .limpEngineStart
  | .limpMotor | .safe => false

/-- Every other regime and phase commands another target. -/
theorem clutchCmdOf_target {cyc : CycleInputs} (h : cyc.mode.commandsLock = false) (engine : Int) :
    ∃ target cap, clutchCmdOf cyc engine = .clutchCmd target cap ∧ target ≠ .lock := by
  unfold clutchCmdOf
  generalize cyc.mode = m at h
  cases m
  case hybridLocking | hybridShared | releaseRampDown | limpEngineDrive => cases h
  case crankClutch => exact ⟨.slip, _, rfl, nofun⟩
  all_goals exact ⟨.isOpen, _, rfl, nofun⟩

section
variable {wp : WorkingParams} {i : SettleInputs} {r : RegimeState}

/-- Under the reading step 3 leaves no LIMP_ENGINE, where the consequence is not LIMP_ENGINE. -/
theorem RegimeState.settleLimp_lock (hl : i.lock = true) (hc : i.cons ≠ .limpEngine) (hc' : i.cons ≠ .safe) :
    (r.settleLimp wp i).mode ≠ .limpEngineDrive := by
  cases hcons : i.cons with
  | safe => exact absurd hcons hc'
  | limpEngine => exact absurd hcons hc
  | none =>
    have hunlocked : ¬(i.clutch = .locked ∧ i.lock = false) := by simp [hl]
    rw [RegimeState.settleLimp_none hcons, if_neg hunlocked]
    split
    · intro h
      have hsync := syncModeFor_regime wp i.speed
      rw [show syncModeFor wp i.speed = _ from h] at hsync
      cases hsync
    · next hdrive =>
      split
      · exact nofun
      · exact hdrive
  | limpMotor =>
    unfold RegimeState.settleLimp
    rw [hcons]
    simp only
    split_ifs with hstandby hmay hmotor
    · exact nofun
    · rw [hstandby]; exact nofun
    · rw [hmotor]; exact nofun
    · exact nofun

/-- Under the reading steps 5 and 6 leave nothing that commands LOCK but LIMP_ENGINE DRIVE. -/
theorem RegimeState.settleMoves_lock (hl : i.lock = true) (hm : r.mode ≠ .limpEngineDrive) :
    (r.settleMoves wp i).mode.commandsLock = false := by
  have hclasses : r.mode.still = true ∨ r.mode.regime = .hybrid ∨ r.mode = .releaseRampDown ∨
      r.mode.regime = .sync := by
    revert hm
    cases r.mode <;> decide
  have hphase : (syncModeFor wp i.speed).commandsLock = false := by unfold syncModeFor; split <;> rfl
  rcases hclasses with h | h | h | h
  · rw [RegimeState.settleMoves_still h]
    revert h
    cases r.mode <;> decide
  · rw [RegimeState.settleMoves_hybrid h, if_pos hl]
    rfl
  · rw [RegimeState.settleMoves_rampDown h, if_pos (.inl hl)]
    rfl
  · rw [RegimeState.settleMoves_sync h]
    simp only
    split
    · rfl
    · split
      · next hsame => rw [hsame]; exact hphase
      · exact hphase

/-- No start under the reading settles in a regime and phase that commands LOCK. -/
theorem RegimeState.settle_lock (hl : i.lock = true) (hc : i.cons ≠ .limpEngine) :
    (r.settle wp i).mode.commandsLock = false := by
  by_cases hsafe : i.cons = .safe
  · unfold RegimeState.settle
    rw [if_pos hsafe]
    split
    · next h => rcases h with h | h <;> rw [h] <;> rfl
    · rfl
  · by_cases hm : r.mode = .safe
    · rw [RegimeState.settle_in_safe hm]
      split
      · rfl
      · rw [hm]; rfl
    · rw [RegimeState.settle_eq_stages hsafe hm]
      refine RegimeState.settleMoves_lock hl ?_
      unfold RegimeState.settleStandbyExit
      split
      · exact nofun
      · exact RegimeState.settleLimp_lock hl hc hsafe

end

/-- Settles O36: the regime and phase a start fixes under the reading command another target at any completion. -/
theorem lockIsNeverCommandedUnderTheLockReading : Obligations.LockIsNeverCommandedUnderTheLockReading := by
  refine ⟨fun s => s.lockReading_iff, fun s k hreset hcycle hwaiting hl => ?_⟩
  have hmode : (s.startCycle k).regime.mode = (s.regime.settle s.tables.wp s.settleInputs).mode := by
    obtain ⟨a, w, u, hregime, -⟩ := s.startCycle_regime k
    rw [hregime]
  have hlock : ((s.startCycle k).fixInputs k).mode.commandsLock = false :=
    (congrArg Mode.commandsLock hmode).trans (RegimeState.settle_lock hl (combinedConsequence_lock _ _ hl))
  refine ⟨_, _, exec_splitCycleStart hreset hcycle hwaiting, s.startCycle_cycle k, fun u cyc hreset' hcycle' hm => ?_⟩
  obtain ⟨target, cap, hcmd, htarget⟩ := clutchCmdOf_target (cyc := cyc) (by rw [hm]; exact hlock)
    (computeCycle u.tables u.split cyc).projection.engine
  refine ⟨_, identOf cyc.wp.idClutchCmd, target, cap, exec_splitCycleCompletion hreset' hcycle', htarget, ?_⟩
  rw [State.completeCycle_ports, (u.fillSlots_filled cyc _).2.2.1, hcmd]

/-! ### The completion tests (R100) -/

theorem RegimeState.countDwell_eq (wanted : Bool) (r : RegimeState) : r.countDwell wanted = { r with
    want := if wanted then min (r.want + 1) 255 else 0
    unwant := if wanted then 0 else min (r.unwant + 1) 65535 } := by
  cases wanted <;> rfl

/-- A completion test moves no dwell count. -/
theorem RegimeState.completionTest_dwell (wp : WorkingParams) (i : CompletionInputs) (r : RegimeState) :
    (r.completionTest wp i).want = r.want ∧ (r.completionTest wp i).unwant = r.unwant := by
  unfold RegimeState.completionTest
  cases r.mode
  case electric | syncIdle | syncMatch | hybridShared => simp only; split <;> exact ⟨rfl, rfl⟩
  case releaseRampDown => simp only; split_ifs <;> exact ⟨rfl, rfl⟩
  all_goals exact ⟨rfl, rfl⟩

/-- A dwell release is due when the count is reached and the engine has run its least time (R103, R113, R116). -/
theorem RegimeState.releaseDue_iff (wp : WorkingParams) (r : RegimeState) : r.releaseDue wp = true ↔
    wp.offDwell ≤ (r.unwant : Int) ∧ ∀ period, r.minRun ≠ .running period := by
  unfold RegimeState.releaseDue
  cases r.minRun <;> simp

theorem Timer.isRunning_eq_false_iff (t : Timer) : t.isRunning = false ↔ t = .stopped := by
  cases t <;> simp [Timer.isRunning]

/-- Settles O37: the dwell counts move, then the test of the regime standing, written out by regime. -/
theorem completionTestsFollowTheRegime : Obligations.CompletionTestsFollowTheRegime := by
  intro s cyc hreset hcycle
  refine ⟨_, exec_splitCycleCompletion hreset hcycle, ?_⟩
  have hregime := s.completeCycle_regime cyc
  have hengine : (s.completionInputs cyc).engineCmd = (s.completeCycle cyc).split.history.newest.engineCmd := by
    rw [State.completeCycle_newest]
    rfl
  have hwanted : (s.completeCycle cyc).split.prevWanted = (computeCycle s.tables s.split cyc).wanted := by
    rw [State.completeCycle_split]
    rfl
  have hinputs : (s.completionInputs cyc).wanted = (computeCycle s.tables s.split cyc).wanted := rfl
  generalize s.completeCycle cyc = t at *
  rw [← hwanted] at hregime hinputs
  have hdwell := (s.regime.countDwell t.split.prevWanted).completionTest_dwell s.tables.wp (s.completionInputs cyc)
  rw [← hregime, RegimeState.countDwell_eq] at hdwell
  obtain ⟨hwant, hunwant⟩ : t.regime.want = (if t.split.prevWanted then min (s.regime.want + 1) 255 else 0) ∧
    t.regime.unwant = (if t.split.prevWanted then 0 else min (s.regime.unwant + 1) 65535) := hdwell
  refine ⟨hwant, hunwant, ?_⟩
  intro wp r entered cranks due returns
  have hcounted : s.regime.countDwell t.split.prevWanted = r := by
    rw [RegimeState.countDwell_eq, ← hwant, ← hunwant]
  rw [hcounted] at hregime
  replace hregime : t.regime = r.completionTest wp (s.completionInputs cyc) := hregime
  have hdue : r.releaseDue wp = true ↔ due := r.releaseDue_iff wp
  have hcranks : r.crankAllowed wp (s.completionInputs cyc) = true ↔ cranks := by
    simp only [RegimeState.crankAllowed_iff, State.completionInputs, decide_eq_true_eq, Timer.isRunning_eq_false_iff]
    exact Iff.rfl
  have hmode : r.mode = s.regime.mode := rfl
  have hreturns : (s.completionInputs cyc).wanted = true ∧ r.dest = .electric ∧
      (s.completionInputs cyc).lock = false ↔ returns := by
    rw [hinputs]
    exact Iff.rfl
  have hcycleMode : (s.completionInputs cyc).cycleMode = cyc.mode := rfl
  unfold RegimeState.completionTest at hregime
  rw [hmode] at hregime
  cases hm : s.regime.mode with
  | electric =>
    rw [hm] at hregime
    refine ⟨fun h => hregime.trans ?_, fun h => hregime.trans (if_neg (mt hcranks.1 h))⟩
    simp only [if_pos (hcranks.2 h), show (s.completionInputs cyc).cycleSpeed = cyc.speed from rfl]
    split <;> rfl
  | syncIdle | syncMatch =>
    rw [hm] at hregime
    refine ⟨fun h => hregime.trans ?_, fun h => hregime.trans (if_neg (mt hdue.1 h))⟩
    simp only [if_pos (hdue.2 h)]
    rw [RegimeState.enterToward, RegimeState.enter_opening_of_sync (by rw [hmode, hm]; rfl)]
  | hybridShared =>
    rw [hm] at hregime
    exact ⟨fun h => hregime.trans (if_pos (hdue.2 h)), fun h => hregime.trans (if_neg (mt hdue.1 h))⟩
  | releaseRampDown =>
    simp only [hm, hreturns, hengine, hcycleMode] at hregime
    refine ⟨fun h => hregime.trans (if_pos h), fun h => ⟨fun hr => ?_, fun hr hz => ?_, fun hr hz => ?_⟩⟩
    all_goals rw [if_neg (not_not.2 h)] at hregime
    · exact hregime.trans (if_pos hr)
    · rw [if_neg hr, if_pos hz] at hregime
      exact hregime.trans (RegimeState.enter_opening_of_not_sync (by rw [hmode, hm]; decide))
    · rw [if_neg hr, if_neg hz] at hregime
      exact hregime
  | standby | crankStarter | crankClutch | hybridLocking | releaseOpening | limpEngineStart | limpEngineDrive
  | limpMotor | safe => rw [hm] at hregime; exact hregime

end Sys2Proof.Machine
end

section
/-! PROOFS. The Regime Controller at the ENGINE and CLUTCH acceptances (R108 to R118) and at its five expiries. -/

namespace Sys2Proof.Machine

/-! ### Reports -/

section
variable {wp : WorkingParams} {v : EngineVals} {speed : Int} {lock : Bool} {r : RegimeState}

theorem runningConfirmed_iff : runningConfirmed wp v = true ↔ v.running = true ∧ wp.idleConfirm ≤ v.speed := by
  simp [runningConfirmed]

/-- The match test by the distance of the two speeds and the count it reaches (R112). -/
theorem RegimeState.matchTest_eq : r.matchTest wp v speed lock =
    if wp.syncWindow < |v.speed - speed| then { r with matchCount := 0 }
    else if (r.matchCount : Int) + 1 < wp.syncConfirm then { r with matchCount := r.matchCount + 1 }
    else if lock then { r with matchCount := wp.syncConfirm.toNat }
    else RegimeState.enter wp .hybridLocking { r with matchCount := wp.syncConfirm.toNat } := by
  unfold RegimeState.matchTest
  rw [Int.abs_eq_natAbs]
  rfl

/-- Where an ENGINE report asks for the running flag alone, a clear flag is a stall. -/
theorem RegimeState.engineReport_stall (h : r.mode = .syncIdle ∨ r.mode.regime = .hybrid ∨ r.mode = .releaseRampDown ∨
    r.mode = .limpEngineDrive) : r.engineReport wp v speed lock = if v.running then r else r.stall wp := by
  unfold RegimeState.engineReport
  generalize r.mode = m at h
  cases m
  case syncIdle | hybridLocking | hybridShared | releaseRampDown | limpEngineDrive => rfl
  all_goals exact absurd h (by decide)

end

/-! ### The CLUTCH_LOCK reading around an acceptance -/

/-- A removal raises nothing. -/
theorem FaultSource.removed_clear {x : FaultSource} (m : ClearMode) (h : x.state = .clear) :
    (x.removed m).state = .clear := by
  unfold FaultSource.removed
  split
  · rw [h]
  · exact h

/-- Storing a frame takes away at most the lapse source, and that only where the stream was LAPSED. -/
theorem State.storeFrame_lockReading (s : State) (r : Role) (d : List Byte) :
    ((s.storeFrame r d).lockReading = true → s.lockReading = true) ∧
      ((s.intake.streams.get r).state ≠ .lapsed → (s.storeFrame r d).lockReading = s.lockReading) := by
  refine ⟨fun h => ?_, fun h => ?_⟩
  · obtain ⟨i, hstate, hlock⟩ := (s.storeFrame r d).lockReading_iff.1 h
    rw [(s.storeFrame_keeps r d).1] at hlock
    refine s.lockReading_iff.2 ⟨i, ?_, hlock⟩
    rw [← FaultState.ne_clear_iff] at hstate ⊢
    refine fun hclear => hstate ?_
    rw [State.storeFrame_sources]
    split
    · exact FaultSource.removed_clear _ hclear
    · exact hclear
  · unfold State.lockReading
    rw [State.storeFrame_faults, if_neg h, (s.storeFrame_keeps r d).1]

/-- The model's choice gives one of its two values. -/
theorem openChoice_eq {α : Type} [DecidableEq α] (c : Bool) (b a : α) :
    openChoice c b a = b ∨ openChoice c b a = a := by
  unfold openChoice
  split
  · exact .inl rfl
  · cases c
    · exact .inr rfl
    · exact .inl rfl

/-- An ENGINE acceptance hands the stored values on, with a CLUTCH_LOCK reading taken before or after its own flag
(log entry 6). -/
theorem State.engineAccepted_regime (s : State) (d : List Byte) :
    let t := (s.storeFrame .engine d).handAcceptance .engine
    ∃ lock, t.regime = s.regime.engineReport s.tables.wp t.intake.engine s.intake.effInverter.speed lock ∧
      (s.lockReading = false → t.lockReading = false → lock = false) ∧
      (s.intake.streams.engine.state ≠ .lapsed → s.lockReading = true → t.lockReading = true → lock = true) := by
  intro t
  obtain ⟨hlower, hsame⟩ := s.storeFrame_lockReading .engine d
  have hspeed : (s.storeFrame .engine d).intake.effInverter = s.intake.effInverter := by
    rw [State.storeFrame_intake]
    rfl
  have hafter : ((s.storeFrame .engine d).handFlag srcEngineFault
      (s.storeFrame .engine d).intake.engine.fault).lockReading = t.lockReading := by
    unfold State.lockReading
    rw [show t.faults = _ from State.handAcceptance_faults _ _]
    simp [t]
  have hregime := State.handAcceptance_regime (s.storeFrame .engine d) .engine
  simp only [hspeed, hafter, State.storeFrame_keeps] at hregime
  have hengine : (s.storeFrame .engine d).intake.engine = t.intake.engine := by simp [t]
  rw [hengine] at hregime
  refine ⟨_, hregime, fun hs ht => ?_, fun hl hs ht => ?_⟩
  · have hbefore : (s.storeFrame .engine d).lockReading = false :=
      Bool.eq_false_iff.2 fun h => ne_true_of_eq_false hs (hlower h)
    rcases openChoice_eq (Config.regimeBeforeFault s.freeIx) (s.storeFrame .engine d).lockReading t.lockReading
      with h | h <;> rw [h]
    · exact hbefore
    · exact ht
  · have hbefore : (s.storeFrame .engine d).lockReading = true := (hsame hl).trans hs
    rcases openChoice_eq (Config.regimeBeforeFault s.freeIx) (s.storeFrame .engine d).lockReading t.lockReading
      with h | h <;> rw [h]
    · exact hbefore
    · exact ht

theorem State.clutchAccepted_regime (s : State) (d : List Byte) :
    let t := (s.storeFrame .clutch d).handAcceptance .clutch
    t.regime = s.regime.clutchReport s.tables.wp t.intake.clutch.state := by
  intro t
  rw [show t.regime = _ from State.handAcceptance_regime _ _]
  simp [t]

/-- The effective shaft speed, by the state of INVERTER (R37). -/
theorem Intake.effInverter_speed (x : Intake) : x.effInverter.speed = (match x.streams.inverter.state with
    | .fresh | .held => x.inverter.speed
    | .never | .lapsed => 0) := by
  rw [Intake.effInverter_eq]
  unfold Intake.live
  cases hstate : x.streams.inverter.state <;>
    simp [show (x.streams.get .inverter).state = _ from hstate, StreamState.live]

/-- Settles O38: the two reports, written out by regime. -/
theorem reportsMoveTheRegime : Obligations.ReportsMoveTheRegime := by
  intro p role a f s hs hc ha haccepts
  refine ⟨_, exec_frameReceived_accepted hs hc ha haccepts, ?_⟩
  obtain ⟨htables, hintake, -, -, hregime, hfaults, -⟩ := s.consuming_keeps p a f
  have hlockReading : (s.consuming p a f).lockReading = s.lockReading := by
    unfold State.lockReading
    rw [htables, hfaults]
  have hengine (hr : role = .engine) := hr ▸ (s.consuming p a f).engineAccepted_regime f.data
  have hclutch (hr : role = .clutch) := hr ▸ (s.consuming p a f).clutchAccepted_regime f.data
  simp only [htables, hintake, hregime, hlockReading, Intake.effInverter_speed] at hengine hclutch
  generalize ((s.consuming p a f).storeFrame role f.data).handAcceptance role = t at *
  intro r wp v speed confirmed started entered opening stalled
  refine ⟨fun hr => ?engine, fun hr => ?clutch⟩
  case engine =>
    obtain ⟨lock, ht, hfree, hset⟩ := hengine hr
    replace ht : t.regime = r.engineReport wp v speed lock := ht
    have hconfirmed : runningConfirmed wp v = true ↔ confirmed := runningConfirmed_iff
    have hstalled {x : RegimeState} (h : r.engineReport wp v speed lock = if v.running then r else r.stall wp)
        (hx : r.stall wp = x) : stalled x := by
      rw [h, hx] at ht
      exact ⟨fun hv => ht.trans (if_neg (ne_true_of_eq_false hv)), fun hv => ht.trans (if_pos hv)⟩
    cases hm : r.mode with
    | crankStarter | crankClutch =>
      have hreport : t.regime = if runningConfirmed wp v then (r.startMinRun wp).enter wp (syncModeFor wp speed)
          else r := by rw [ht, RegimeState.engineReport, hm]
      refine ⟨fun hv hslow => ?_, fun hv hfast => ?_, fun hv => hreport.trans (if_neg (mt hconfirmed.1 hv))⟩
      · rw [hreport, if_pos (hconfirmed.2 hv), syncModeFor, if_pos hslow]
        rfl
      · rw [hreport, if_pos (hconfirmed.2 hv), syncModeFor, if_neg (not_lt_of_ge hfast)]
        rfl
    | limpEngineStart =>
      have hreport : t.regime = if runningConfirmed wp v then (r.startMinRun wp).enter wp .limpEngineDrive
          else r := by rw [ht, RegimeState.engineReport, hm]
      exact ⟨fun hv => hreport.trans (if_pos (hconfirmed.2 hv)), fun hv => hreport.trans (if_neg (mt hconfirmed.1 hv))⟩
    | syncMatch =>
      have hreport : t.regime = if v.running then r.matchTest wp v speed lock else r.stall wp := by
        rw [ht, RegimeState.engineReport, hm]
      refine ⟨fun hv => ?_, fun hv hfar => ?_, fun hv hnear => ?_⟩
      · rw [hreport, if_neg (ne_true_of_eq_false hv), RegimeState.stall_eq, if_pos (.inl (by rw [hm]; rfl)),
          RegimeState.enterToward, RegimeState.enter_opening_of_sync (by rw [hm]; rfl)]
      all_goals rw [if_pos hv, RegimeState.matchTest_eq, hm] at hreport
      · exact hreport.trans (if_pos hfar)
      · rw [if_neg (not_lt_of_ge hnear)] at hreport
        refine ⟨fun hn => hreport.trans (if_pos hn), fun hn => ?_⟩
        intro locks held
        rw [if_neg (not_lt_of_ge hn)] at hreport
        have hlocks (hl : lock = false) : locks := hreport.trans (if_neg (ne_true_of_eq_false hl))
        have hheld (hl : lock = true) : held := hreport.trans (if_pos hl)
        refine ⟨?_, fun h1 h2 => hlocks (hfree h1 h2), fun h1 h2 h3 => hheld (hset h1 h2 h3)⟩
        cases hl : lock with
        | false => exact .inl (hlocks hl)
        | true => exact .inr (hheld hl)
    | syncIdle =>
      refine hstalled (RegimeState.engineReport_stall (.inl hm)) ?_
      rw [RegimeState.stall_eq, if_pos (.inl (by rw [hm]; rfl)), RegimeState.enterToward,
        RegimeState.enter_opening_of_sync (by rw [hm]; rfl)]
    | hybridLocking | hybridShared =>
      refine hstalled (RegimeState.engineReport_stall (.inr (.inl (by rw [hm]; rfl)))) ?_
      rw [RegimeState.stall_eq, if_pos (.inr (by rw [hm]; rfl)), RegimeState.enterToward,
        RegimeState.enter_opening_of_not_sync (by rw [hm]; decide)]
    | releaseRampDown =>
      refine hstalled (RegimeState.engineReport_stall (.inr (.inr (.inl hm)))) ?_
      rw [RegimeState.stall_eq, hm]
      exact RegimeState.enter_opening_of_not_sync (by rw [hm]; decide)
    | limpEngineDrive =>
      refine hstalled (RegimeState.engineReport_stall (.inr (.inr (.inr hm)))) ?_
      rw [RegimeState.stall_eq, hm]
      rfl
    | standby | electric | releaseOpening | limpMotor | safe => exact ht.trans (by rw [RegimeState.engineReport, hm])
  case clutch =>
    have ht : t.regime = r.clutchReport wp t.intake.clutch.state := hclutch hr
    unfold RegimeState.clutchReport at ht
    generalize t.intake.clutch.state = c at ht ⊢
    cases hm : r.mode with
    | hybridLocking => cases c <;> rw [hm] at ht <;> exact ht
    | releaseOpening =>
      rw [hm] at ht
      cases c with
      | isOpen =>
        refine ht.trans ?_
        cases r.dest <;> rfl
      | _ => exact ht
    | _ => cases c <;> rw [hm] at ht <;> exact ht

/-! ### Expiries -/

/-- The crank timer's expiry touches CRANK_FAIL alone, and that at the last attempt in CRANK (R132). -/
theorem State.crankExpiry_faults (s : State) : s.crankExpiry.faults =
    if s.regime.mode.regime = .crank ∧ ((s.regime.attempts + 1 : Nat) : Int) = s.tables.wp.crankAttemptsMax then
      ((s.raiseFault srcCrankFail).removeFault srcCrankFail).faults
    else s.faults := by
  unfold State.crankExpiry
  cases s.regime.mode
  case crankStarter | crankClutch =>
    simp only [Mode.regime, true_and]
    split <;> rfl
  all_goals rfl

theorem State.crankExpiry_frame (s : State) :
    s.crankExpiry = { s with regime := s.crankExpiry.regime, faults := s.crankExpiry.faults } := by
  obtain ⟨h1, h2, h3, h4, h5, h6, h7, h8, h9, h10, h11, h12, h13⟩ := s.crankExpiry_keeps
  rw [← h1, ← h2, ← h3, ← h4, ← h5, ← h6, ← h7, ← h8, ← h9, ← h10, ← h11, ← h12, ← h13]

/-- A source found CLEAR is raised and removed in one event, and goes by its clear mode (R135). -/
theorem FaultSource.raised_removed (m : ClearMode) : (FaultSource.raised ⟨.clear, false, false⟩).removed m =
    ⟨match m with
      | .auto => .clear
      | .manual => .awaitAck, false, false⟩ := by
  cases m <;> rfl

/-- Settles O39: each expiry by its definition; of the crank timer's what it makes of the sources besides. -/
theorem regimeTimerExpiries : Obligations.RegimeTimerExpiries := by
  refine ⟨fun s hreset hrun => ⟨s.crankExpiry, ?_, s.crankExpiry_frame, fun i hi => ?others, fun hm => ?cranking,
    fun hm => ?limp⟩, fun s hreset => ⟨fun hrun hm => ?sync, fun hrun hm => ?clutch, fun hrun => ?retry,
    fun period hrun => ?minRun⟩⟩
  · simp [exec, execCrankTimerExpiry, State.unlessReset, hreset, hrun]
  case others =>
    rw [State.crankExpiry_faults]
    split
    · rw [State.removeFault_sources, if_neg hi, State.raiseFault_sources, if_neg hi]
    · rfl
  case cranking =>
    have hregime := s.crankExpiry_regime
    have hmode : s.regime.mode = .crankStarter ∨ s.regime.mode = .crankClutch := by
      revert hm
      cases s.regime.mode <;> decide
    refine ⟨?_, fun hn => ?_, fun hn hclear => ?_⟩
    · rcases hmode with h | h <;> rw [h] at hregime <;> exact hregime
    · rw [State.crankExpiry_faults, if_neg fun h => hn h.2]
    · rw [State.crankExpiry_faults, if_pos ⟨hm, hn⟩, State.removeFault_sources, if_pos rfl,
        State.raiseFault_sources, if_pos rfl, hclear, ← TableStore.faultEntry_eq]
      exact FaultSource.raised_removed _
  case limp =>
    unfold State.crankExpiry
    rw [hm]
    rfl
  case sync =>
    have hentered : ({ s.regime with syncT := .stopped } : RegimeState).mode = .syncMatch := hm
    show execSyncTimerExpiry s = _
    simp only [execSyncTimerExpiry, State.unlessReset_none _ _ hreset, if_pos hrun, if_pos hentered,
      RegimeState.enterToward]
    rw [RegimeState.enter_opening_of_sync (by rw [hentered]; rfl)]
    rfl
  case clutch =>
    refine ⟨(s.setRegime { s.regime with clutchT := .stopped }).setFaults
      (s.faults.set srcClutchFault s.faults.sources[srcClutchFault].raisedTimeout), ?_, rfl, ?_, fun i hi => ?_⟩
    · show execClutchTimerExpiry s = _
      simp only [execClutchTimerExpiry, State.unlessReset_none _ _ hreset, if_pos hrun]
      rcases hm with hm | hm <;> simp only [State.setRegime_regime, hm] <;> rfl
    · rw [State.setFaults_faults, FaultUnit.sources_set, if_pos rfl]
      rfl
    · rw [State.setFaults_faults, FaultUnit.sources_set, if_neg hi]
  case retry =>
    show execRetryTimerExpiry s = _
    rw [execRetryTimerExpiry, State.unlessReset_none _ _ hreset, if_pos hrun]
    rfl
  case minRun =>
    show execMinRunExpiry s = _
    rw [execMinRunExpiry, State.unlessReset_none _ _ hreset, hrun]
    rfl

end Sys2Proof.Machine
end

section
/-! PROOFS. The Watch Unit over whole commands: what any operation makes of a watch (R147, R148, R152, R156), and the
evaluating events with their notices (R144, R149, R150). -/

namespace Sys2Proof.Machine

/-! ### One watch -/

/-- What a watch may become without being evaluated: it does not come to MATCHED, its fired flag is not set, and where
it is not armed it stays so. -/
structure WatchCell.Calm (c d : WatchCell) : Prop where
  matched : d.state = .matched → c.state = .matched
  fired : d.fired = true → c.fired = true
  unarmed : c.state = .waiting ∨ c.state = .disabled → d.state = .waiting ∨ d.state = .disabled

/-- What a watch that is WAITING or DISABLED does not come to. -/
def WatchCell.Unfired (c d : WatchCell) : Prop :=
  c.state = .waiting ∨ c.state = .disabled → d.state ≠ .matched ∧ (d.fired = true → c.fired = true)

theorem WatchCell.Calm.refl (c : WatchCell) : c.Calm c := ⟨id, id, id⟩

theorem WatchCell.Calm.trans {c d e : WatchCell} (h : c.Calm d) (h' : d.Calm e) : c.Calm e :=
  ⟨fun hm => h.matched (h'.matched hm), fun hf => h.fired (h'.fired hf), fun hu => h'.unarmed (h.unarmed hu)⟩

theorem WatchCell.Calm.unfired_trans {c d e : WatchCell} (h : c.Calm d) (h' : d.Unfired e) : c.Unfired e := fun hu =>
  have ⟨hm, hf⟩ := h' (h.unarmed hu)
  ⟨hm, fun he => h.fired (hf he)⟩

theorem WatchCell.Unfired.trans_calm {c d e : WatchCell} (h : c.Unfired d) (h' : d.Calm e) : c.Unfired e := fun hu =>
  have ⟨hm, hf⟩ := h hu
  ⟨fun he => hm (h'.matched he), fun he => hf (h'.fired he)⟩

theorem WatchCell.Calm.unfired {c d : WatchCell} (h : c.Calm d) : c.Unfired d := fun hu =>
  ⟨fun hd => by have := h.unarmed hu; simp [hd] at this, h.fired⟩

/-- A watch put to WAITING or DISABLED, with its fired flag kept or cleared. -/
theorem WatchCell.Calm.put {c d : WatchCell} (hstate : d.state = .waiting ∨ d.state = .disabled)
    (hfired : d.fired = true → c.fired = true) : c.Calm d :=
  ⟨fun hm => by simp [hm] at hstate, hfired, fun _ => hstate⟩

theorem heldDisabled_calm (e : Checked WatchEntry) (c : WatchCell) : c.Calm (heldDisabled e c) := by
  cases e with
  | passing => exact .refl c
  | failing => exact .put (.inr rfl) id

/-! ### An evaluation of all watches -/

section
variable (t : TableStore) (ev : Evaluation) (m : Mode) (count : BitVec 16) (ix : Nat)

/-- The evaluation of a failing entry (R153, log entry 7). -/
theorem WatchUnit.evaluateOne_failing {w : WatchUnit} {i : Fin 16} (h : t.watch[i] = .failing) :
    w.evaluateOne t ev m count ix i = w ∨
      w.evaluateOne t ev m count ix i = { w with cells := w.cells.set i { w.cells[i] with state := .disabled } } := by
  simp only [WatchUnit.evaluateOne, h]
  split_ifs
  · exact .inl rfl
  · exact .inr rfl
  · exact .inl rfl

/-- An entry that is not enabled, or whose quantity the event does not concern, is left as it is. -/
theorem WatchUnit.evaluateOne_unconcerned {w : WatchUnit} {i : Fin 16} {e : WatchEntry} (h : t.watch[i] = .passing e)
    (he : e.enable = false ∨ ev.value e.quantity = none) : w.evaluateOne t ev m count ix i = w := by
  simp only [WatchUnit.evaluateOne, h]
  split
  · rfl
  · next v hv =>
    rw [if_neg]
    rcases he with he | he
    · exact ne_true_of_eq_false he
    · rw [he] at hv; cases hv

/-- What an evaluation can make of the cells: at most that of its own watch changes. -/
theorem WatchUnit.evaluateOne_cells_cases (w : WatchUnit) (i : Fin 16) :
    (w.evaluateOne t ev m count ix i).cells = w.cells ∨ ∃ d, (w.evaluateOne t ev m count ix i).cells = w.cells.set i d ∧
      (d = { w.cells[i] with state := .disabled } ∨ ∃ isTrue isPast, d = w.cells[i].evaluated isTrue isPast) := by
  cases hentry : t.watch[i] with
  | failing =>
    rcases WatchUnit.evaluateOne_failing t ev m count ix (w := w) hentry with e | e <;> rw [e]
    · exact .inl rfl
    · exact .inr ⟨_, rfl, .inl rfl⟩
  | passing e =>
    by_cases he : e.enable = false ∨ ev.value e.quantity = none
    · rw [WatchUnit.evaluateOne_unconcerned t ev m count ix hentry he]
      exact .inl rfl
    · obtain ⟨henable, hvalue⟩ := not_or.1 he
      obtain ⟨v, hv⟩ := Option.ne_none_iff_exists'.1 hvalue
      exact .inr ⟨_, w.evaluateOne_cells hentry (by simpa using henable) hv m count ix, .inr ⟨_, _, rfl⟩⟩

theorem WatchUnit.evaluateOne_cell (w : WatchUnit) (i : Fin 16) :
    let d := (w.evaluateOne t ev m count ix i).cells[i]
    d = w.cells[i] ∨ d = { w.cells[i] with state := .disabled } ∨
      ∃ isTrue isPast, d = w.cells[i].evaluated isTrue isPast := by
  rcases w.evaluateOne_cells_cases t ev m count ix i with e | ⟨d, e, hd⟩
  · exact .inl (by rw [e])
  · refine .inr ?_
    simp only [e, Fin.getElem_fin, Vector.getElem_set_self]
    exact hd

/-- An evaluation of one watch leaves the others. -/
theorem WatchUnit.evaluateOne_other (w : WatchUnit) {i j : Fin 16} (h : j ≠ i) :
    (w.evaluateOne t ev m count ix i).cells[j] = w.cells[j] := by
  rcases w.evaluateOne_cells_cases t ev m count ix i with e | ⟨d, e, -⟩
  · rw [e]
  · have hne : i.val ≠ j.val := fun hv => h (Fin.ext hv.symm)
    simp [e, hne]

/-- An evaluation takes no WAITING or DISABLED watch to MATCHED and fires none. -/
theorem WatchUnit.evaluateOne_unfired (w : WatchUnit) (i j : Fin 16) :
    w.cells[j].Unfired (w.evaluateOne t ev m count ix i).cells[j] := by
  by_cases h : j = i
  · subst h
    rcases w.evaluateOne_cell t ev m count ix j with e | e | ⟨a, b, e⟩ <;> rw [e]
    · exact (WatchCell.Calm.refl _).unfired
    · exact (WatchCell.Calm.put (c := w.cells[j]) (d := { w.cells[j] with state := .disabled }) (.inr rfl) id).unfired
    · intro hu
      rw [WatchCell.evaluated_state, WatchCell.evaluated_fired_iff]
      rcases hu with hs | hs <;> rw [hs]
      · refine ⟨?_, fun hf => hf.resolve_right fun h => nomatch h.1⟩
        rw [WatchState.evaluated_waiting]
        split <;> decide
      · exact ⟨nofun, fun hf => hf.resolve_right fun h => nomatch h.1⟩
  · rw [w.evaluateOne_other t ev m count ix h]
    exact (WatchCell.Calm.refl _).unfired

/-- Each watch is evaluated once. -/
theorem WatchUnit.foldl_unfired (l : List (Fin 16)) (hl : l.Nodup) (w : WatchUnit) (j : Fin 16) :
    (j ∉ l → (l.foldl (WatchUnit.evaluateOne t ev m count ix) w).cells[j] = w.cells[j]) ∧
      w.cells[j].Unfired (l.foldl (WatchUnit.evaluateOne t ev m count ix) w).cells[j] := by
  induction l generalizing w with
  | nil => exact ⟨fun _ => rfl, (WatchCell.Calm.refl _).unfired⟩
  | cons i l ih =>
    obtain ⟨hi, hl⟩ := List.nodup_cons.1 hl
    obtain ⟨hkept, hunfired⟩ := ih hl (w.evaluateOne t ev m count ix i)
    rw [List.foldl_cons]
    refine ⟨fun hj => ?_, ?_⟩
    · obtain ⟨hji, hjl⟩ := not_or.1 fun h => hj (List.mem_cons.2 h)
      rw [hkept hjl, w.evaluateOne_other t ev m count ix hji]
    · by_cases hji : j = i
      · subst hji
        rw [hkept hi]
        exact w.evaluateOne_unfired t ev m count ix j j
      · rw [w.evaluateOne_other t ev m count ix hji] at hunfired
        exact hunfired

theorem WatchUnit.evaluate_unfired (w : WatchUnit) (j : Fin 16) :
    w.cells[j].Unfired (w.evaluate t ev m count ix).cells[j] :=
  (WatchUnit.foldl_unfired t ev m count ix watchIndices (by decide) w j).2

end

/-! ### The evaluating events -/

/-- Which watches an acceptance evaluates (R144, R147), and that it uses up one index of free values where it does. -/
theorem State.handAcceptance_evaluates (s : State) (r : Role) :
    let t := s.handAcceptance r
    let after (ev : Evaluation) (m : Mode) : WatchUnit := s.watch.evaluate s.tables ev m s.split.count s.freeIx
    match r with
    | .battery => t.freeIx = s.freeIx + 1 ∧
      t.watch = after [(.soc, s.intake.battery.soc), (.battTemp, s.intake.battery.temp)] s.regime.mode
    | .inverter => t.freeIx = s.freeIx + 1 ∧
      t.watch = after [(.shaftSpeed, s.intake.inverter.speed), (.motorTemp, s.intake.inverter.temp)] s.regime.mode
    | .engine => t.freeIx = s.freeIx + 1 ∧ ∃ m, (m = s.regime.mode ∨ m = t.regime.mode) ∧
      t.watch = after [(.coolantTemp, s.intake.engine.temp)] m
    | .demand | .clutch | .brake => t.freeIx = s.freeIx ∧ t.watch = s.watch := by
  cases r with
  | demand | brake => exact ⟨rfl, rfl⟩
  | clutch => simp [State.handAcceptance, State.handClutch]
  | battery => simp [State.handAcceptance, State.handBattery, State.evaluateWatches]
  | inverter => simp [State.handAcceptance, State.handInverter, State.evaluateWatches]
  | engine =>
    refine ⟨by simp [State.handAcceptance, State.handEngine, State.evaluateWatches],
      openChoice (Config.watchBeforeRegime s.freeIx) s.regime.mode (s.handAcceptance .engine).regime.mode,
      openChoice_eq _ _ _, ?_⟩
    simp [State.handAcceptance, State.handEngine, State.evaluateWatches]

/-- A completion evaluates DEMAND and UNMET in the regime of its cycle. -/
theorem State.completeCycle_evaluates (s : State) (cyc : CycleInputs) :
    let t := s.completeCycle cyc
    let x := t.split.history.newest
    t.freeIx = s.freeIx + 1 ∧
      t.watch = s.watch.evaluate t.tables [(.demand, x.d), (.unmet, x.u)] cyc.mode x.count s.freeIx := by
  intro t x
  have hx : x = recordOf s.split cyc (computeCycle s.tables s.split cyc) := s.completeCycle_newest cyc
  have ht : t.tables = _ := s.completeCycle_tables cyc
  rw [hx, ht]
  constructor
  · simp [t, State.completeCycle, State.evaluateWatches]
  · simp [t, State.completeCycle, State.evaluateWatches]
    rfl

/-! ### A move -/

theorem resetWatch_calm (table : Vector (Checked WatchEntry) 16) (c : WatchCell) (i : Fin 16) :
    c.Calm (resetWatch table).cells[i] := by
  have hcell : (resetWatch table).cells[i] = resetWatchCell table[i] := by simp [resetWatch]
  rw [hcell]
  unfold resetWatchCell
  split
  · exact .put (by split <;> simp) nofun
  · exact .put (.inr rfl) nofun

/-- A written entry re-arms its watch, which keeps its fired flag (R152). -/
theorem WatchUnit.written_calm (w : WatchUnit) (i : Nat) (enabled : Bool) (j : Fin 16) :
    w.cells[j].Calm (w.written i enabled).cells[j] := by
  by_cases h : i = j.val
  · subst h
    have hcell : (w.written j.val enabled).cells[j] =
        ⟨if enabled then .waiting else .disabled, w.cells[j].fired⟩ := by simp [WatchUnit.written]
    rw [hcell]
    exact .put (by cases enabled <;> simp) id
  · have hcell : (w.written i enabled).cells[j] = w.cells[j] := by simp [WatchUnit.written, h]
    rw [hcell]
    exact .refl _

theorem State.dequeue_cells (s : State) (p : Port) (h : Holder) : (s.dequeue p h).watch.cells = s.watch.cells := by
  cases h <;> rfl

/-- A move evaluates no watch and leaves the index of free values, or evaluates each once and uses up one. -/
theorem State.Move.watches {s t : State} (h : s.Move t) :
    (t.freeIx = s.freeIx ∧ ∀ i : Fin 16, s.watch.cells[i].Calm t.watch.cells[i]) ∨
      (t.freeIx = s.freeIx + 1 ∧ ∀ i : Fin 16, s.watch.cells[i].Unfired t.watch.cells[i]) := by
  have kept {u : State} (hix : u.freeIx = s.freeIx) (hw : u.watch = s.watch) :
      u.freeIx = s.freeIx ∧ ∀ i : Fin 16, s.watch.cells[i].Calm u.watch.cells[i] :=
    ⟨hix, fun i => by rw [hw]; exact .refl _⟩
  cases h with
  | powerOn | pin =>
    refine .inl ⟨by simp, fun i => ?_⟩
    simp only [State.resetBlocks_blocks]
    exact resetWatch_calm _ _ _
  | accepted r f =>
    have hevaluated := (s.storeFrame r f.data).handAcceptance_evaluates r
    have hunfired {ev : Evaluation} {m : Mode} (hw : ((s.storeFrame r f.data).handAcceptance r).watch =
        s.watch.evaluate s.tables ev m s.split.count s.freeIx) (i : Fin 16) :
        s.watch.cells[i].Unfired ((s.storeFrame r f.data).handAcceptance r).watch.cells[i] := by
      rw [hw]
      exact WatchUnit.evaluate_unfired _ _ _ _ _ _ _
    simp only [State.storeFrame_keeps] at hevaluated
    cases r with
    | battery | inverter => exact .inr ⟨hevaluated.1, hunfired hevaluated.2⟩
    | engine =>
      obtain ⟨hix, m, -, hw⟩ := hevaluated
      exact .inr ⟨hix, hunfired hw⟩
    | demand | clutch | brake => exact .inl (kept hevaluated.1 hevaluated.2)
  | started k =>
    refine .inl ⟨by simp, fun i => ?_⟩
    rw [State.startCycle_cells]
    exact heldDisabled_calm s.tables.watch[i] _
  | completed cyc =>
    obtain ⟨hix, hw⟩ := s.completeCycle_evaluates cyc
    refine .inr ⟨hix, fun i => ?_⟩
    rw [hw]
    exact WatchUnit.evaluate_unfired _ _ _ _ _ _ _
  | wrote _ name i field v _ _ hw =>
    rcases State.writeField_cases hw with ⟨_, _, _, _, rfl⟩ | ⟨_, _, _, _, rfl⟩ | ⟨_, _, _, _, rfl⟩ |
      ⟨e, _, _, rfl⟩ | ⟨_, _, _, rfl⟩
    case inr.inr.inr.inl => exact .inl ⟨by simp, fun j => WatchUnit.written_calm _ _ _ _⟩
    all_goals exact .inl (kept (by simp) (by simp))
  | entryReset name i =>
    rcases name with tbl | ⟨_ | _ | _⟩
    case live.watch => exact .inl ⟨rfl, fun j => WatchUnit.written_calm _ _ _ _⟩
    case bank | live.faultMap => exact .inl (kept rfl rfl)
    case live.forward =>
      unfold State.resetEntry
      simp only
      split <;> exact .inl (kept rfl rfl)
  | watchAcked i =>
    refine .inl ⟨by simp, fun j => ?_⟩
    simp only [State.setWatch_watch]
    by_cases hij : j = i
    · subst hij
      have hcell : (s.watch.cells.set j { s.watch.cells[j] with fired := false })[j] =
          { s.watch.cells[j] with fired := false } := by simp
      rw [hcell]
      exact ⟨id, nofun, id⟩
    · have hne : i.val ≠ j.val := fun hv => hij (Fin.ext hv.symm)
      have hcell : (s.watch.cells.set i { s.watch.cells[i] with fired := false })[j] = s.watch.cells[j] := by
        simp [hne]
      rw [hcell]
      exact .refl _
  | flagsAcked => exact .inl ⟨by simp, fun i => .refl _⟩
  | transmitted p a => exact .inl ⟨by simp, fun i => by rw [State.dequeue_cells]; exact .refl _⟩
  | _ => exact .inl (kept (by simp) (by simp))

/-! ### A command -/

/-- A chain of moves that uses up no index evaluates nothing, and one that uses up one evaluates each watch once. -/
theorem State.Moves.watches {s t : State} (h : s.Moves t) : s.freeIx ≤ t.freeIx ∧
    (t.freeIx = s.freeIx → ∀ i : Fin 16, s.watch.cells[i].Calm t.watch.cells[i]) ∧
    (t.freeIx ≤ s.freeIx + 1 → ∀ i : Fin 16, s.watch.cells[i].Unfired t.watch.cells[i]) := by
  induction h with
  | refl => exact ⟨le_rfl, fun _ i => .refl _, fun _ i => (WatchCell.Calm.refl _).unfired⟩
  | @tail u t _ hmove ih =>
    obtain ⟨hle, hcalm, hunfired⟩ := ih
    rcases hmove.watches with ⟨hix, hstep⟩ | ⟨hix, hstep⟩
    · exact ⟨by omega, fun h i => (hcalm (by omega) i).trans (hstep i),
        fun h i => (hunfired (by omega) i).trans_calm (hstep i)⟩
    · exact ⟨by omega, fun h => by omega, fun h i => (hcalm (by omega) i).unfired_trans (hstep i)⟩

@[simp] theorem State.takeRequest_freeIx (s : State) (q : Requester) (r : Request) :
    (s.takeRequest q r).freeIx = s.freeIx := by
  by_cases h : s.ports.slots.get (replySlot q) = .empty
  · rw [State.takeRequest_taken _ _ _ h]; simp
  · rw [State.takeRequest_overrun _ _ _ h]; simp

theorem State.deliverRole_freeIx (s : State) (role : Option Role) (f : Frame) :
    (s.deliverRole role f).freeIx ≤ s.freeIx + 1 := by
  cases role with
  | none => exact Nat.le_succ _
  | some r =>
    show (s.deliver r f).freeIx ≤ _
    unfold State.deliver
    split
    · simp
    · have hevaluated := (s.storeFrame r f.data).handAcceptance_evaluates r
      simp only [State.storeFrame_keeps] at hevaluated
      cases r with
      | battery | inverter | engine => exact hevaluated.1.le
      | demand | clutch | brake => exact hevaluated.1.le.trans (Nat.le_succ _)

theorem State.classifyFrame_freeIx (s : State) (p : Port) (f : Frame) :
    (s.classifyFrame p f).freeIx ≤ s.freeIx + 1 := by
  unfold State.classifyFrame
  split
  · cases p <;> simp
  · exact Nat.le_succ _
  · generalize s.tables.classify p f.id = x
    unfold State.act
    simp only
    split
    · simp
    · exact s.deliverRole_freeIx _ _
    · have h := (s.offerForward p.other f).deliverRole_freeIx x.2 f
      simpa using h
    · exact Nat.le_succ _

theorem State.unlessReset_freeIx {s u t : State} (hu : u.freeIx ≤ s.freeIx + 1)
    (h : Host.Outcome.next (s.unlessReset u) = (.next t : Host.Outcome State Fault Refusal)) :
    t.freeIx ≤ s.freeIx + 1 := by
  cases h
  rcases s.unlessReset_cases u with ⟨-, e⟩ | ⟨-, e⟩ <;> rw [e]
  · exact hu
  · exact Nat.le_succ _

/-- A command evaluates each watch at most once. -/
theorem exec_freeIx {c : Instr} {s t : State} (h : exec c s = .next t) : t.freeIx ≤ s.freeIx + 1 := by
  cases c with
  | powerOnReset | upset | walkEntryTest => cases h; exact Nat.le_succ _
  | pinReset | resetEnd => cases h; split <;> simp
  | walkCompletion =>
    simp only [exec, execWalkCompletion] at h
    split at h
    · split at h <;> cases h <;> simp
    all_goals cases h; exact Nat.le_succ _
  | transmitError p k =>
    refine State.unlessReset_freeIx ?_ h
    split
    · exact Nat.le_succ _
    · next a _ =>
      show (s.errorAttempt p a k).freeIx ≤ _
      simp
  | frameReceived p f =>
    refine State.unlessReset_freeIx ?_ h
    split
    · have hle := (s.countReceived p).classifyFrame_freeIx p f
      simpa using hle
    · simp
  | splitCycleCompletion =>
    refine State.unlessReset_freeIx ?_ h
    split
    · exact (s.completeCycle_evaluates _).1.le
    · simp
  | malformedRequest | read | readHold | write | entryReset | release | copy | commit | cancel | ackFault | ackWatch
  | ackCell | ackFlags | statusCapture | statusRead =>
    refine State.unlessReset_freeIx ?_ h
    split <;> simp
  | copyEntryCarry | elevenRecessiveBitsSeen => exact State.unlessReset_freeIx (by simp) h
  | clutchTimerExpiry =>
    refine State.unlessReset_freeIx ?_ h
    simp only
    split
    · split <;> simp
    · simp
  | receiveError =>
    refine State.unlessReset_freeIx ?_ h
    simp only
    split <;> simp
  | _ =>
    refine State.unlessReset_freeIx ?_ h
    split <;> simp

/-- Settles O42: a command evaluates each watch at most once, and what else it does to one never arms or fires it. -/
theorem waitingWatchNeverFires : Obligations.WaitingWatchNeverFires :=
  fun _ _ _ i h hunarmed => (exec_moves h).watches.2.2 (exec_freeIx h) i hunarmed

end Sys2Proof.Machine
end

section
/-! PROOFS. The evaluating events of the Watch Unit and the notices of their firings (R144, R149, R150). -/

namespace Sys2Proof.Machine

section
variable {t : TableStore} {ev : Evaluation} {m : Mode} {count : BitVec 16} {ix : Nat} {w : WatchUnit} {i : Fin 16}
  {e : WatchEntry} {v : Int}

/-- The evaluation of an enabled entry that the event concerns: its cell, and the notice where one is formed. -/
theorem WatchUnit.evaluateOne_concerned (h : t.watch[i] = .passing e) (he : e.enable = true)
    (hv : ev.value e.quantity = some v) : w.evaluateOne t ev m count ix i =
      let u := { w with cells := w.cells.set i (w.cells[i].evaluated (e.isTrue v m.regime) (e.isPast v m.regime)) }
      if w.cells[i] = ⟨.idle, false⟩ ∧ e.isTrue v m.regime = true ∧ e.action = .notify then
        u.offer ⟨identOf t.wp.idWatchNotice, ⟨i, e.quantity, e.comparison, v, e.threshold, m, count⟩⟩
      else u := by
  have hfires : ((decide (w.cells[i].state = .idle) && decide (w.cells[i].state.evaluated (e.isTrue v m.regime)
      (e.isPast v m.regime) = .matched)) = true ∧ e.action = .notify ∧ w.cells[i].fired = false) ↔
      w.cells[i] = ⟨.idle, false⟩ ∧ e.isTrue v m.regime = true ∧ e.action = .notify := by
    generalize e.isTrue v m.regime = a
    rcases w.cells[i] with ⟨st, fired⟩
    cases st <;> cases a <;> simp [and_comm]
  simp only [WatchUnit.evaluateOne, h, hv, if_pos he, hfires]
  rfl

theorem WatchEntry.covers_eq (e : WatchEntry) (m : Mode) : e.covers m.regime = e.mask.getLsbD (match m with
    | .standby => 0 | .electric => 1 | .crankStarter | .crankClutch => 2 | .syncIdle | .syncMatch => 3
    | .hybridLocking | .hybridShared => 4 | .releaseRampDown | .releaseOpening => 5
    | .limpEngineStart | .limpEngineDrive => 6 | .limpMotor => 7 | .safe => 8) := by
  cases m <;> rfl

/-- A NOTIFY firing: the watch is MATCHED with its flag set, and the notice is formed where the flag was clear. -/
theorem WatchUnit.evaluateOne_notifies (h : t.watch[i] = .passing e) (he : e.enable = true)
    (hv : ev.value e.quantity = some v) (hn : e.action = .notify) (hidle : w.cells[i].state = .idle)
    (htrue : e.isTrue v m.regime = true) :
    let u := w.evaluateOne t ev m count ix i
    let n : QueuedNotice := ⟨identOf t.wp.idWatchNotice, ⟨i, e.quantity, e.comparison, v, e.threshold, m, count⟩⟩
    u.cells[i] = ⟨.matched, true⟩ ∧
      (w.cells[i].fired = true → u.queue = w.queue ∧ u.overflow = w.overflow) ∧
      (w.cells[i].fired = false → w.queue.length < 8 → u.queue = w.queue ++ [n] ∧ u.overflow = w.overflow) ∧
      (w.cells[i].fired = false → 8 ≤ w.queue.length → u.queue = w.queue ∧ u.overflow = true) := by
  intro u n
  have hu : u = _ := WatchUnit.evaluateOne_concerned h he hv
  have hcells : u.cells = _ := w.evaluateOne_cells h he hv m count ix
  have hfires : w.cells[i] = ⟨.idle, false⟩ ↔ w.cells[i].fired = false := by
    generalize w.cells[i] = c at hidle
    obtain ⟨st, fired⟩ := c
    cases hidle
    simp
  simp only [hfires, htrue, hn, and_true] at hu
  refine ⟨?_, fun hf => ?_, fun hf hroom => ?_, fun hf hfull => ?_⟩
  · have hcell : u.cells[i] = w.cells[i].evaluated true (e.isPast v m.regime) := by
      rw [hcells, htrue]
      simp
    rw [hcell, WatchCell.evaluated, hidle]
    simp
  · rw [hu, if_neg (by rw [hf]; decide)]
    exact ⟨rfl, rfl⟩
  · rw [hu, if_pos hf, WatchUnit.offer, if_pos (show _ < 8 from hroom)]
    exact ⟨rfl, rfl⟩
  · rw [hu, if_pos hf, WatchUnit.offer, if_neg (not_lt_of_ge (show 8 ≤ _ from hfull))]
    exact ⟨rfl, rfl⟩

/-- Every evaluation that forms no notice leaves the queue and the overflow flag. -/
theorem WatchUnit.evaluateOne_quiet (h : ∀ e v, t.watch[i] = .passing e → e.enable = true → e.action = .notify →
      ev.value e.quantity = some v → w.cells[i] = ⟨.idle, false⟩ → e.isTrue v m.regime = false) :
    (w.evaluateOne t ev m count ix i).queue = w.queue ∧ (w.evaluateOne t ev m count ix i).overflow = w.overflow := by
  cases hentry : t.watch[i] with
  | failing =>
    rcases WatchUnit.evaluateOne_failing t ev m count ix (w := w) hentry with hu | hu <;> rw [hu]
    · exact ⟨rfl, rfl⟩
    · exact ⟨rfl, rfl⟩
  | passing e =>
    by_cases he : e.enable = false ∨ ev.value e.quantity = none
    · rw [WatchUnit.evaluateOne_unconcerned t ev m count ix hentry he]
      exact ⟨rfl, rfl⟩
    · obtain ⟨henable, hvalue⟩ := not_or.1 he
      obtain ⟨v, hv⟩ := Option.ne_none_iff_exists'.1 hvalue
      have henable' : e.enable = true := by simpa using henable
      rw [WatchUnit.evaluateOne_concerned hentry henable' hv]
      simp only
      rw [if_neg]
      · exact ⟨rfl, rfl⟩
      · rintro ⟨hcell, htrue, hn⟩
        rw [h e v hentry henable' hn hv hcell] at htrue
        cases htrue

end

/-- An evaluation runs over all the watches in ascending order. -/
theorem WatchUnit.evaluate_eq_foldl (t : TableStore) (ev : Evaluation) (m : Mode) (count : BitVec 16) (ix : Nat)
    (w : WatchUnit) : w.evaluate t ev m count ix =
      (List.finRange 16).foldl (fun w i => w.evaluateOne t ev m count ix i) w := by
  have hindices : watchIndices = List.finRange 16 := by decide
  rw [WatchUnit.evaluate, hindices]

/-- Settles O43: what an acceptance and a completion evaluate, and the notices of a single evaluation. -/
theorem evaluatingEventsAndTheirNotices : Obligations.EvaluatingEventsAndTheirNotices := by
  refine ⟨fun p r a f s hs hc ha haccepts => ⟨_, exec_frameReceived_accepted hs hc ha haccepts, ?accepted⟩,
    fun s cyc hreset hcycle => ⟨_, exec_splitCycleCompletion hreset hcycle, ?completed⟩,
    fun t ev m count ix w i => ⟨fun e he hu => WatchUnit.evaluateOne_unconcerned t ev m count ix he hu,
      fun he => WatchUnit.evaluateOne_failing t ev m count ix he⟩,
    fun t ev m count ix w i e v he henable hn hv hidle hcovers hinside => ?notifies,
    fun t ev m count ix w i => ?quiet⟩
  case accepted =>
    obtain ⟨htables, -, -, hsplit, hregime, -, hwatch, -, -, -, -, hix, -⟩ := s.consuming_keeps p a f
    have hevaluated := ((s.consuming p a f).storeFrame r f.data).handAcceptance_evaluates r
    simp only [State.storeFrame_keeps, htables, hsplit, hregime, hwatch, hix, WatchUnit.evaluate_eq_foldl] at hevaluated
    have hintake : (((s.consuming p a f).storeFrame r f.data).handAcceptance r).intake =
        ((s.consuming p a f).storeFrame r f.data).intake := by simp
    rw [← hintake] at hevaluated
    intro after
    cases r with
    | battery | inverter => exact hevaluated.2
    | engine =>
      obtain ⟨-, m, hm, hw⟩ := hevaluated
      rcases hm with rfl | rfl
      · exact .inl hw
      · exact .inr hw
    | demand | clutch | brake => exact hevaluated.2
  case completed =>
    have h := (s.completeCycle_evaluates cyc).2
    rw [WatchUnit.evaluate_eq_foldl] at h
    exact h
  case notifies =>
    have htrue : e.isTrue v m.regime = true := (e.isTrue_iff v m.regime).2 ⟨(e.covers_eq m).trans hcovers, hinside⟩
    obtain ⟨hcell, hfired, hroom, hfull⟩ := WatchUnit.evaluateOne_notifies (count := count) (ix := ix) he henable hv hn
      hidle htrue
    exact ⟨hcell, fun j hj => w.evaluateOne_other t ev m count ix hj, hfired, hroom, hfull⟩
  case quiet =>
    intro u notifies hnot
    refine WatchUnit.evaluateOne_quiet fun e v he henable hn hv hcell => Bool.eq_false_iff.2 fun htrue => hnot ?_
    obtain ⟨hcovers, hinside⟩ := (e.isTrue_iff v m.regime).1 htrue
    exact ⟨e, v, he, henable, hn, hv, hcell, (e.covers_eq m).symm.trans hcovers, hinside⟩

end Sys2Proof.Machine
end

section
/-! PROOFS. The Forwarding Unit and the receiving ports: the lookup (R171, R174), the forward queues (R175), and the
counts of a port beside its own attempts (R176 to R179). -/

namespace Sys2Proof.Machine

/-! ### The lookup -/

theorem FwdEntry.isMatch_iff (e : FwdEntry) (p : Port) (id : Ident) :
    e.isMatch p id = true ↔ e.valid = true ∧ e.port = p ∧ e.id = id := by
  simp [FwdEntry.isMatch]

/-- The first match of a list is a passing entry of it that matches; with none there is no such entry. -/
theorem firstMatch_spec (p : Port) (id : Ident) (l : List (Checked FwdEntry)) :
    match firstMatch p id l with
    | some e => .passing e ∈ l ∧ e.isMatch p id = true
    | none => ∀ e, .passing e ∈ l → e.isMatch p id = false := by
  induction l with
  | nil => exact nofun
  | cons x l ih =>
    cases x with
    | failing =>
      rw [firstMatch]
      cases h : firstMatch p id l with
      | some e => rw [h] at ih; exact ⟨List.mem_cons_of_mem _ ih.1, ih.2⟩
      | none => rw [h] at ih; exact fun e he => ih e (by simpa using he)
    | passing e =>
      rw [firstMatch]
      by_cases he : e.isMatch p id = true
      · rw [if_pos he]; exact ⟨List.mem_cons_self, he⟩
      · rw [if_neg he]
        cases h : firstMatch p id l with
        | some e' => rw [h] at ih; exact ⟨List.mem_cons_of_mem _ ih.1, ih.2⟩
        | none =>
          rw [h] at ih
          intro e' he'
          rcases List.mem_cons.1 he' with heq | hmem
          · cases heq; simpa using he
          · exact ih e' hmem

theorem mem_toList_iff {α : Type} {n : Nat} (v : Vector α n) (x : α) : x ∈ v.toList ↔ ∃ i : Fin n, v[i] = x := by
  rw [Vector.mem_toList_iff, Vector.mem_iff_getElem]
  exact ⟨fun ⟨i, hi, h⟩ => ⟨⟨i, hi⟩, h⟩, fun ⟨i, h⟩ => ⟨i.val, i.isLt, h⟩⟩

/-- Where the entries are pairwise apart, two passing entries that match are one. -/
theorem ForwardInv.match_unique {s : State} (h : ForwardInv s) {p : Port} {id : Ident} {i j : Fin 47} {x y : FwdEntry}
    (hx : s.tables.forward[i] = .passing x) (hy : s.tables.forward[j] = .passing y) (hmx : x.isMatch p id = true)
    (hmy : y.isMatch p id = true) : x = y := by
  by_cases hij : i = j
  · subst hij
    rw [hx] at hy
    cases hy
    rfl
  · obtain ⟨hvx, hpx, hix⟩ := (x.isMatch_iff p id).1 hmx
    obtain ⟨hvy, hpy, hiy⟩ := (y.isMatch_iff p id).1 hmy
    exact absurd ⟨hpx.trans hpy.symm, hix.trans hiy.symm⟩ (h i j hij x y hx hy hvx hvy).1

theorem TableStore.defaultAction_passing {t : TableStore} {x : PortDefaults} (h : t.portDefaults = .passing x)
    (p : Port) : t.defaultAction p = match p with
      | .portU => x.u
      | .portD => x.d := by
  unfold TableStore.defaultAction
  rw [h]
  cases p <;> rfl

/-- Failing port defaults are read as PASS (R9). -/
theorem TableStore.defaultAction_failing {t : TableStore} (h : t.portDefaults = .failing) (p : Port) :
    t.defaultAction p = .pass := by
  unfold TableStore.defaultAction
  rw [h]

/-- Settles O44: the first match is the one match, and without one the default of the port is taken. -/
theorem lookupTakesTheOneMatch : Obligations.LookupTakesTheOneMatch := by
  intro s p id hinv
  have hfirst := firstMatch_spec p id s.tables.forward.toList
  simp only [mem_toList_iff] at hfirst
  refine ⟨fun i e he hv hp hid => ?_, fun hnone => ?_⟩
  · have hmatch : e.isMatch p id = true := (e.isMatch_iff p id).2 ⟨hv, hp, hid⟩
    unfold TableStore.classify
    cases hf : firstMatch p id s.tables.forward.toList with
    | some e' =>
      rw [hf] at hfirst
      obtain ⟨⟨j, hj⟩, hmatch'⟩ := hfirst
      rw [hinv.match_unique hj he hmatch' hmatch]
    | none =>
      rw [hf] at hfirst
      rw [hfirst e ⟨i, he⟩] at hmatch
      cases hmatch
  · have hclassify : s.tables.classify p id = match s.tables.defaultAction p with
        | .pass => (.pass, none)
        | .drop => (.drop, none) := by
      unfold TableStore.classify
      cases hf : firstMatch p id s.tables.forward.toList with
      | none => rfl
      | some e =>
        rw [hf] at hfirst
        obtain ⟨⟨i, hi⟩, hmatch⟩ := hfirst
        obtain ⟨hv, hkey⟩ := (e.isMatch_iff p id).1 hmatch
        exact absurd hkey (hnone i e hi hv)
    exact ⟨fun x hx => hclassify.trans (by rw [TableStore.defaultAction_passing hx] <;> rfl),
      fun hx => hclassify.trans (by rw [TableStore.defaultAction_failing hx])⟩

/-! ### The forward queues -/

/-- A received frame that no management identifier claims takes its action once the receive count has moved. -/
theorem exec_frameReceived_classified {s : State} {p : Port} {f : Frame} {a : FwdAction} {role : Option Role}
    (h : s.Classifies p f) (hc : s.tables.classify p f.id = (a, role)) :
    exec (.frameReceived p f) s = .next ((s.countReceived p).act p f a role) := by
  have hrec : s.receives p = true := by simp [State.receives, h.online]
  have e1 : (s.countReceived p).strapId = s.strapId := rfl
  have e2 : (s.countReceived p).tables = s.tables := rfl
  simp only [exec, execFrameReceived, State.unlessReset_none _ _ h.noReset, hrec, h.size, and_self, if_true,
    State.classifyFrame, e1, e2, h.other, hc]

/-- A frame no stream takes is at most offered to the other port's queue. -/
theorem State.act_unstreamed {s : State} {p : Port} {f : Frame} {a : FwdAction} {role : Option Role}
    (h : a = .pass ∨ a = .drop ∨ role = none) :
    s.act p f a role = if a = .pass ∨ a = .consumePass then s.offerForward p.other f else s := by
  cases a with
  | pass => rfl
  | drop => rfl
  | consume | consumePass =>
    have hrole : role = none := by simpa using h
    subst hrole
    rfl

/-- What an offer makes of the queue (R175). -/
theorem State.offerForward_queue (s : State) (p : Port) (f : Frame) : ∃ q : ForwardQueue,
    s.offerForward p f = s.setForward (s.forward.set p q) ∧
      ((s.ports.port.get p).error = .busOff → q = s.forward.get p) ∧
      ((s.ports.port.get p).error ≠ .busOff → 16 ≤ (s.forward.get p).frames.length →
        q = { s.forward.get p with overflow := true }) ∧
      ((s.ports.port.get p).error ≠ .busOff → (s.forward.get p).frames.length < 16 →
        q = { s.forward.get p with frames := (s.forward.get p).frames ++ [f] }) := by
  rcases s.offerForward_cases p f with ⟨hoff, e⟩ | ⟨hon, hfull, e⟩ | ⟨hon, hroom, e⟩
  · refine ⟨s.forward.get p, ?_, fun _ => rfl, fun h => absurd hoff h, fun h => absurd hoff h⟩
    rw [e]
    cases p <;> rfl
  · exact ⟨_, e, fun h => absurd h hon, fun _ _ => rfl, fun _ h => absurd h (by omega)⟩
  · exact ⟨_, e, fun h => absurd h hon, fun _ h => absurd h (by omega), fun _ _ => rfl⟩

/-- Settles O45: the receive count moves, and the queue of the other port is the only other thing a frame can reach. -/
theorem passedFrameJoinsTheOtherPortsQueue : Obligations.PassedFrameJoinsTheOtherPortsQueue := by
  intro p a role f s hs hc hunstreamed
  obtain ⟨q, hoffer, hoff, hfull, hroom⟩ := s.offerForward_queue p.other f
  have hkept : s.forward = s.forward.set p.other (s.forward.get p.other) := by cases p <;> rfl
  obtain ⟨q', hact, hpass, hdrop⟩ : ∃ q', (s.countReceived p).act p f a role =
      (s.countReceived p).setForward (s.forward.set p.other q') ∧ (a = .pass ∨ a = .consumePass → q' = q) ∧
      (¬(a = .pass ∨ a = .consumePass) → q' = s.forward.get p.other) := by
    rw [State.act_unstreamed hunstreamed]
    by_cases hp : a = .pass ∨ a = .consumePass
    · refine ⟨q, ?_, fun _ => rfl, fun h => absurd hp h⟩
      rw [if_pos hp, State.offerForward_counted, hoffer]
      rfl
    · refine ⟨s.forward.get p.other, ?_, fun h => absurd h hp, fun _ => rfl⟩
      rw [if_neg hp, ← hkept]
      rfl
  refine ⟨_, exec_frameReceived_classified hs hc, ?_⟩
  rw [hact]
  have hqueue : ((s.countReceived p).setForward (s.forward.set p.other q')).forward.get p.other = q' := by
    rw [State.setForward_forward, ByPort.get_set, if_pos rfl]
  have hport : ((s.countReceived p).setForward (s.forward.set p.other q')).ports.port.get p =
      (s.ports.port.get p).receivedWhole := by
    cases p <;> rfl
  rw [hqueue, hport]
  refine ⟨rfl, rfl, fun h => ?_, fun h hon hlen => ?_, fun h hon hlen => ?_⟩
  · by_cases hp : a = .pass ∨ a = .consumePass
    · rw [hpass hp]
      refine hoff ((h.resolve_left ?_).resolve_left ?_) <;> rintro rfl <;> simp at hp
    · exact hdrop hp
  · rw [hpass h, hfull hon hlen]
  · rw [hpass h, hroom hon hlen]

/-! ### The counts of a port -/

/-- The error state of a port after its receive count moves within its range (R177). -/
theorem PortState.Consistent.recounted_eq {x : PortState} (h : x.Consistent) (he : x.error ≠ .busOff) (n : Nat) :
    PortState.settled { x with rxCount := n } = { x with
      rxCount := n
      error := if x.error = .errorActive then (if 127 < n then .errorPassive else .errorActive)
        else if x.txCount ≤ 127 ∧ n ≤ 127 then .errorActive else .errorPassive } := by
  rw [PortState.settled_frame, PortState.settled_error]
  cases herr : x.error with
  | busOff => exact absurd herr he
  | errorActive =>
    obtain ⟨htx, -⟩ := h.active herr
    simp only [if_true]
    rw [if_neg (by omega)]
    by_cases hn : 127 < n
    · rw [if_pos (.inr hn), if_pos hn]
    · rw [if_neg (by omega), if_neg hn]
  | errorPassive =>
    obtain ⟨htx, -⟩ := h.passive herr
    simp only [reduceCtorEq, if_false]
    rw [if_neg (by omega)]

/-- A management command is its request. -/
theorem exec_commandRequest {c : Instr} {q : Requester} {r : Request} (h : commandRequest c = some (q, r)) (s : State) :
    exec c s = .next (s.request q r) := by
  cases c
  case malformedRequest | read | readHold | write | entryReset | release | copy | commit | cancel | ackFault |
      ackWatch | ackCell | ackFlags | statusCapture | statusRead => cases h; rfl
  all_goals cases h

/-- What a port in BUS_OFF shuts out changes nothing. -/
theorem exec_of_busOff {p : Port} {s : State} {f : Frame} {k : NonDataKind} {c : Instr}
    (hoff : (s.ports.port.get p).error = .busOff)
    (hc : c = .frameReceived p f ∨ c = .nonDataFrameDiscard p k ∨ c = .receiveError p ∨ c = .transmitStart p ∨
      (p = .portU ∧ (commandRequest c).isSome = true)) : exec c s = .next s := by
  have hreceives : s.receives p = false := by simp [State.receives, hoff]
  rcases hc with rfl | rfl | rfl | rfl | ⟨rfl, hrequest⟩
  · exact next_unlessReset_same (by rw [hreceives]; simp)
  · exact next_unlessReset_same (by rw [hreceives]; simp)
  · exact next_unlessReset_same (if_pos hoff)
  · have hnone : s.arbiterChoice p = none := if_pos (.inl hoff)
    exact next_unlessReset_same (by rw [hnone])
  · obtain ⟨⟨q, r⟩, hqr⟩ := Option.isSome_iff_exists.1 hrequest
    rw [exec_commandRequest hqr]
    exact next_unlessReset_same (if_pos hoff)

/-- Settles O46: the counts settle by the table of R177; the run that takes the recovery count to 128 is recovery. -/
theorem portCountsFollowReceptionAndRecovery : Obligations.PortCountsFollowReceptionAndRecovery := by
  intro p s hreset hcons x withPort
  refine ⟨fun k c n hon hc => ?counted, fun hoff => ⟨fun f k c hc => exec_of_busOff hoff hc, fun hr => ?early,
    fun c hr hc => ?recovers⟩⟩
  case counted =>
    rw [← hcons.recounted_eq hon n]
    rcases hc with ⟨rfl, rfl⟩ | ⟨rfl, rfl⟩
    · show execNonDataFrameDiscard p k s = _
      rw [execNonDataFrameDiscard, State.unlessReset_none _ _ hreset, if_pos (by simpa [State.receives] using hon)]
      rfl
    · show execReceiveError p s = _
      rw [execReceiveError, State.unlessReset_none _ _ hreset]
      simp only
      rw [if_neg hon]
      rfl
  case early =>
    have hrun : s.recessiveRun p = withPort { x with recovery := x.recovery + 1 } := by
      rcases s.recessiveRun_cases p with ⟨hon, -⟩ | ⟨-, -, e⟩ | ⟨-, hlate, -⟩
      · exact absurd hoff hon
      · exact e
      · exact absurd hlate (not_le_of_gt hr)
    refine ⟨?_, next_unlessReset_same (if_neg (not_le_of_gt hr))⟩
    rw [← hrun]
    exact next_unlessReset_taken hreset _
  case recovers =>
    have hrun : s.recessiveRun p = s.leaveBusOff p := by
      rcases s.recessiveRun_cases p with ⟨hon, -⟩ | ⟨-, hearly, -⟩ | ⟨-, -, e⟩
      · exact absurd hoff hon
      · exact absurd hearly (not_lt_of_ge (le_of_eq hr.symm))
      · exact e
    have hexec : exec c s = .next (s.leaveBusOff p) := by
      rw [← hrun]
      rcases hc with rfl | rfl
      · exact next_unlessReset_taken hreset _
      · refine (next_unlessReset_taken hreset _).trans (congrArg _ (if_pos ?_))
        exact le_of_eq hr.symm
    have hport : ({ x with error := .errorActive, txCount := 0, rxCount := 0, recovery := 0 } : PortState) =
        ⟨.errorActive, 0, 0, 0, none⟩ := by
      rw [← (hcons.busOff hoff).2]
    have hframe := s.leaveBusOff_frame p
    rw [show s.ports.port.get p = x from rfl, hport] at hframe
    have hfaults := congrArg State.faults hframe
    refine ⟨_, hexec, ?_, fun i hi => ?_, ?_, ?_⟩
    · rw [hframe]
      rfl
    · rw [hfaults]
      cases p
      · rfl
      · exact (s.removeFault_sources _ i).trans (if_neg hi)
    · rintro rfl
      exact hfaults
    · rintro rfl hactive hcond
      rw [hfaults]
      refine (s.removeFault_sources _ _).trans ?_
      rw [if_pos rfl, FaultSource.removed_eq, if_pos (.inl hcond), hactive, TableStore.faultEntry_eq]
      cases (s.tables.readFaultEntry srcDownlinkLoss).clearMode <;> rfl

end Sys2Proof.Machine
end

section
/-! PROOFS. Words laid out as fields (R200, R202): which bits of a word the fields at their places set, for the frames
the part puts on the bus and the lines of a status snapshot. -/

namespace Sys2Proof.Machine

/-! ### Fields at their places -/

/-- Some field of the list, given by its first bit, its number of bits and its value, sets bit `k`. -/
def SetsBit (fields : List (Nat × Nat × Int)) (k : Nat) : Prop :=
  ∃ f ∈ fields, f.1 ≤ k ∧ k < f.1 + f.2.1 ∧ (BitVec.ofInt f.2.1 f.2.2).getLsbD (k - f.1) = true

/-- A word is made of the fields and is 0 in every other bit. -/
structure Carries {w : Nat} (x : BitVec w) (fields : List (Nat × Nat × Int)) : Prop where
  fits : ∀ f ∈ fields, f.1 + f.2.1 ≤ w
  bits : ∀ k, k < w → (x.getLsbD k = true ↔ SetsBit fields k)

@[simp] theorem setsBit_nil (k : Nat) : ¬ SetsBit [] k := by rintro ⟨_, hf, _⟩; cases hf

theorem setsBit_cons (f : Nat × Nat × Int) (fs : List (Nat × Nat × Int)) (k : Nat) :
    SetsBit (f :: fs) k ↔ SetsBit [f] k ∨ SetsBit fs k := by
  simp only [SetsBit, List.mem_cons, List.not_mem_nil, or_false, or_and_right, exists_or]

theorem setsBit_append (fs gs : List (Nat × Nat × Int)) (k : Nat) :
    SetsBit (fs ++ gs) k ↔ SetsBit fs k ∨ SetsBit gs k := by
  simp only [SetsBit, List.mem_append, or_and_right, exists_or]

theorem setsBit_singleton (lo n : Nat) (v : Int) (k : Nat) :
    SetsBit [(lo, n, v)] k ↔ lo ≤ k ∧ k < lo + n ∧ (BitVec.ofInt n v).getLsbD (k - lo) = true := by
  simp [SetsBit]

/-- The fields moved up by `n` bits. -/
def raisedFields (n : Nat) (fields : List (Nat × Nat × Int)) : List (Nat × Nat × Int) :=
  fields.map fun f => (n + f.1, f.2)

theorem setsBit_raised {n k : Nat} (fields : List (Nat × Nat × Int)) :
    SetsBit (raisedFields n fields) k ↔ n ≤ k ∧ SetsBit fields (k - n) := by
  simp only [SetsBit, raisedFields, List.mem_map, exists_exists_and_eq_and]
  constructor
  · rintro ⟨f, hf, hlo, hhi, hbit⟩
    exact ⟨by omega, f, hf, by omega, by omega, by rwa [Nat.sub_sub]⟩
  · rintro ⟨hn, f, hf, hlo, hhi, hbit⟩
    exact ⟨f, hf, by omega, by omega, by rwa [← Nat.sub_sub]⟩

theorem Carries.zero (w : Nat) : Carries (0 : BitVec w) [] := ⟨by simp, by simp⟩

theorem carries_putBits {width lo n : Nat} (v : Int) (h : lo + n ≤ width) :
    Carries (putBits width lo n v) [(lo, n, v)] :=
  ⟨by simpa using h, fun k hk => (putBits_getLsbD width lo n v k hk).trans (setsBit_singleton lo n v k).symm⟩

theorem Carries.or {w : Nat} {x y : BitVec w} {fs gs : List (Nat × Nat × Int)} (hx : Carries x fs)
    (hy : Carries y gs) : Carries (x ||| y) (fs ++ gs) := by
  refine ⟨fun f hf => (List.mem_append.1 hf).elim (hx.fits f) (hy.fits f), fun k hk => ?_⟩
  rw [BitVec.getLsbD_or, Bool.or_eq_true, hx.bits k hk, hy.bits k hk, setsBit_append]

/-- A number in `n` bits is the one field it is. -/
theorem carries_ofNat (n v : Nat) : Carries (BitVec.ofNat n v) [(0, n, (v : Int))] :=
  ⟨by simp, fun k hk => by rw [setsBit_singleton, BitVec.ofInt_natCast]; simp [hk]⟩

theorem carries_toNat {n : Nat} (x : BitVec n) : Carries x [(0, n, (x.toNat : Int))] := by
  have h := carries_ofNat n x.toNat
  rwa [BitVec.ofNat_toNat, BitVec.setWidth_eq] at h

/-- Of two words put together the second holds the low bits. -/
theorem Carries.append {m n : Nat} {x : BitVec m} {y : BitVec n} {fs gs : List (Nat × Nat × Int)} (hx : Carries x fs)
    (hy : Carries y gs) : Carries (x ++ y) (gs ++ raisedFields n fs) := by
  refine ⟨fun f hf => ?_, fun k hk => ?_⟩
  case refine_1 =>
    rcases List.mem_append.1 hf with hf | hf
    · exact (hy.fits f hf).trans (Nat.le_add_left n m)
    · obtain ⟨g, hg, rfl⟩ := List.mem_map.1 hf
      have := hx.fits g hg
      show n + g.1 + g.2.1 ≤ m + n
      omega
  case refine_2 =>
    rw [BitVec.getLsbD_append, setsBit_append, setsBit_raised]
    by_cases hlow : k < n
    · rw [if_pos hlow, hy.bits k hlow]
      simp [Nat.not_le.2 hlow]
    · rw [if_neg hlow, hx.bits (k - n) (by omega)]
      have hnone : ¬ SetsBit gs k := fun ⟨f, hf, _, hhi, _⟩ => hlow (hhi.trans_le (hy.fits f hf))
      simp [hnone, Nat.not_lt.1 hlow]

theorem Carries.congr {w : Nat} {x : BitVec w} {fs gs : List (Nat × Nat × Int)} (hx : Carries x fs)
    (hfits : ∀ f ∈ gs, f.1 + f.2.1 ≤ w) (h : ∀ k, SetsBit fs k ↔ SetsBit gs k) : Carries x gs :=
  ⟨hfits, fun k hk => (hx.bits k hk).trans (h k)⟩

/-! ### Sets of flags (R201) -/

/-- A set of flags as a natural number. -/
def setNumber : List Bool → Nat
  | [] => 0
  | b :: bs => Nat.bit b (setNumber bs)

theorem setBits_eq_setNumber (l : List Bool) : setBits l = (setNumber l : Int) := by
  induction l with
  | nil => rfl
  | cons b bs ih =>
    rw [setBits, ih, setNumber, Nat.bit_val, bit]
    cases b with
    | false => simp
    | true => simp only [if_true, Bool.toNat_true]; push_cast; ring

theorem setNumber_testBit (l : List Bool) (j : Nat) : (setNumber l).testBit j = l.getD j false := by
  induction l generalizing j with
  | nil => simp [setNumber]
  | cons b bs ih =>
    cases j with
    | zero => exact Nat.testBit_bit_zero b _
    | succ j => rw [setNumber, Nat.testBit_bit_succ, ih, List.getD_cons_succ]

/-- The members of a set, each a flag of one bit from bit `lo` up. -/
def flagFields (lo : Nat) : List Bool → List (Nat × Nat × Int)
  | [] => []
  | b :: bs => (lo, 1, bit b) :: flagFields (lo + 1) bs

theorem setsBit_flag (lo : Nat) (b : Bool) (k : Nat) : SetsBit [(lo, 1, bit b)] k ↔ k = lo ∧ b = true := by
  rw [setsBit_singleton]
  constructor
  · rintro ⟨hlo, hhi, hbit⟩
    obtain rfl : k = lo := by omega
    cases b with
    | true => exact ⟨rfl, rfl⟩
    | false => simp [bit] at hbit
  · rintro ⟨rfl, rfl⟩
    simp [bit]

theorem setsBit_flagFields (l : List Bool) (lo k : Nat) :
    SetsBit (flagFields lo l) k ↔ lo ≤ k ∧ l.getD (k - lo) false = true := by
  induction l generalizing lo with
  | nil => simp [flagFields]
  | cons b bs ih =>
    rw [flagFields, setsBit_cons, setsBit_flag, ih]
    rcases Nat.lt_trichotomy k lo with h | rfl | h
    · exact iff_of_false (by omega) (by omega)
    · simp
    · obtain ⟨j, hj⟩ : ∃ j, k - lo = j + 1 := ⟨k - lo - 1, by omega⟩
      rw [hj, show k - (lo + 1) = j by omega, List.getD_cons_succ]
      exact ⟨fun h' => h'.elim (by omega) fun h' => ⟨by omega, h'.2⟩, fun h' => .inr ⟨by omega, h'.2⟩⟩

/-- A set in one field is its flags one by one. -/
theorem setsBit_setBits {lo n : Nat} {l : List Bool} (h : l.length ≤ n) (k : Nat) :
    SetsBit [(lo, n, setBits l)] k ↔ SetsBit (flagFields lo l) k := by
  rw [setsBit_singleton, setsBit_flagFields, setBits_eq_setNumber, BitVec.ofInt_natCast, BitVec.getLsbD_ofNat,
    setNumber_testBit]
  constructor
  · rintro ⟨hlo, _, hbit⟩
    exact ⟨hlo, by simpa using (Bool.and_eq_true _ _ ▸ hbit).2⟩
  · rintro ⟨hlo, hbit⟩
    have hlt : k - lo < l.length := by
      by_contra hge
      rw [List.getD_eq_default _ _ (Nat.not_lt.1 hge)] at hbit
      cases hbit
    exact ⟨hlo, by omega, by rw [hbit, Bool.and_true]; exact decide_eq_true (by omega)⟩

theorem Binding.bits_eq (b : Binding) : b.bits = setBits [b.engHi, b.engLo, b.motHi, b.motLo, b.engSlew] := by
  simp only [Binding.bits, setBits]; ring

/-! ### The frames of the part (R200, R202) -/

/-- The fields of a payload in the data word. -/
def Payload.wordFields : Payload → List (Nat × Nat × Int)
  | .engineCmd mode torque speed => [(0, 3, (mode.code : Int)), (3, 12, torque), (15, 13, speed)]
  | .inverterCmd mode torque => [(0, 1, (mode.code : Int)), (1, 12, torque)]
  | .clutchCmd target capacity => [(0, 2, (target.code : Int)), (2, 10, capacity)]
  | .brakeShare friction regen => [(0, 10, friction), (10, 10, regen)]
  | .splitReport d engine motor u b _ =>
    [(0, 11, d), (11, 10, engine), (21, 10, motor), (31, 11, u)] ++
      flagFields 42 [b.engHi, b.engLo, b.motHi, b.motLo, b.engSlew]
  | .notice n =>
    [(0, 4, (n.entry.val : Int)), (4, 3, (n.quantity.code : Int)), (7, 1, (n.comparison.code : Int)), (8, 14, n.value),
      (22, 14, n.threshold), (36, 12, (n.count.toNat : Int))]
  | .reply tag table field index value _ =>
    [(0, 8, (tag.toNat : Int)), (8, 4, (table.toNat : Int)), (12, 4, (field.toNat : Int)),
      (16, 8, (index.toNat : Int)), (24, 24, (value.toNat : Int))]

/-- The field of a payload in the upper bits of byte 6. -/
def Payload.upperFields : Payload → List (Nat × Nat × Int)
  | .splitReport _ _ _ _ _ mode => [(0, 4, (mode.code : Int))]
  | .notice n => [(0, 4, (n.mode.code : Int))]
  | .reply _ _ _ _ _ status => [(0, 4, (status.code : Int))]
  | .engineCmd _ _ _ | .inverterCmd _ _ | .clutchCmd _ _ | .brakeShare _ _ => []

theorem Payload.word_carries (p : Payload) : Carries p.word p.wordFields := by
  cases p with
  | engineCmd mode torque speed =>
    exact ((carries_putBits _ (by decide)).or (carries_putBits _ (by decide))).or (carries_putBits _ (by decide))
  | inverterCmd mode torque => exact (carries_putBits _ (by decide)).or (carries_putBits _ (by decide))
  | clutchCmd target capacity => exact (carries_putBits _ (by decide)).or (carries_putBits _ (by decide))
  | brakeShare friction regen => exact (carries_putBits _ (by decide)).or (carries_putBits _ (by decide))
  | splitReport d engine motor u b mode =>
    have hword := ((((carries_putBits (width := 48) (lo := 0) (n := 11) d (by decide)).or
      (carries_putBits (lo := 11) (n := 10) engine (by decide))).or
      (carries_putBits (lo := 21) (n := 10) motor (by decide))).or
      (carries_putBits (lo := 31) (n := 11) u (by decide))).or
      (carries_putBits (lo := 42) (n := 5) b.bits (by decide))
    refine hword.congr (by simp [Payload.wordFields, flagFields]) fun k => ?_
    refine (setsBit_append _ _ k).trans (Iff.trans (or_congr Iff.rfl ?_) (setsBit_append _ _ k).symm)
    rw [Binding.bits_eq]
    exact setsBit_setBits (le_refl 5) k
  | notice n =>
    exact (((((carries_putBits _ (by decide)).or (carries_putBits _ (by decide))).or
      (carries_putBits _ (by decide))).or (carries_putBits _ (by decide))).or (carries_putBits _ (by decide))).or
      (carries_putBits _ (by decide))
  | reply tag table field index value status =>
    exact (((((carries_toNat value).append (carries_toNat index)).append (carries_toNat field)).append
      (carries_toNat table)).append (carries_toNat tag))

theorem Payload.upper_carries (p : Payload) : Carries p.upper p.upperFields := by
  cases p with
  | splitReport _ _ _ _ _ mode => exact carries_ofNat 4 mode.code
  | notice n => exact carries_ofNat 4 n.mode.code
  | reply _ _ _ _ _ status => exact carries_ofNat 4 status.code
  | engineCmd _ _ _ => exact Carries.zero 4
  | inverterCmd _ _ => exact Carries.zero 4
  | clutchCmd _ _ => exact Carries.zero 4
  | brakeShare _ _ => exact Carries.zero 4

/-- The bits of a frame apart from counter and check: the data word in bytes 0 to 5 and the upper bits of byte 6. -/
theorem Content.toFrame_bits (c : Content) (counter : Nibble) {k : Nat} (hk : k < 48 ∨ (52 ≤ k ∧ k < 56)) :
    (((c.toFrame counter).data.getD (k / 8) 0).getLsbD (k % 8) = true ↔
      SetsBit (c.payload.wordFields ++ raisedFields 52 c.payload.upperFields) k) := by
  rw [setsBit_append, setsBit_raised]
  rcases hk with hk | ⟨hlo, hhi⟩
  · rw [Content.toFrame, frameBytes_word _ _ _ _ _ hk, c.payload.word_carries.bits k hk]
    exact (or_iff_left fun h => by omega).symm
  · have hbyte : k / 8 = 6 := by omega
    have hnone : ¬ SetsBit c.payload.wordFields k := fun ⟨f, hf, _, hbelow, _⟩ => by
      have := c.payload.word_carries.fits f hf
      omega
    rw [hbyte, Content.toFrame, frameBytes_byte6, BitVec.getLsbD_append, if_neg (by omega),
      show k % 8 - 4 = k - 52 by omega, c.payload.upper_carries.bits _ (by omega)]
    simp [hnone, hlo]

/-- The counter stands in bits 0 to 3 of byte 6 (R161). -/
theorem Content.toFrame_counter (c : Content) (counter : Nibble) {k : Nat} (hk : k < 4) :
    ((c.toFrame counter).data.getD ((48 + k) / 8) 0).getLsbD ((48 + k) % 8) = counter.getLsbD k := by
  rw [show (48 + k) / 8 = 6 by omega, show (48 + k) % 8 = k by omega, Content.toFrame, frameBytes_byte6,
    BitVec.getLsbD_append, if_pos hk]

end Sys2Proof.Machine
end

section
/-! PROOFS. The arbiter's choice and the frames it chooses from (R161 to R163). -/

namespace Sys2Proof.Machine

theorem lowest_eq {pre post : List Attempt} {a : Attempt} (hpre : ∀ b ∈ pre, a.frame.id.toNat < b.frame.id.toNat)
    (hpost : ∀ b ∈ post, a.frame.id.toNat ≤ b.frame.id.toNat) : lowest (pre ++ a :: post) = some a := by
  induction pre with
  | nil =>
    rw [List.nil_append, lowest]
    cases h : lowest post with
    | none => rfl
    | some b => exact if_pos (hpost b (lowest_mem h))
  | cons x xs ih =>
    rw [List.cons_append, lowest, ih fun b hb => hpre b (List.mem_cons_of_mem x hb)]
    exact if_neg (Nat.not_le.2 (hpre x List.mem_cons_self))

/-- What a holder offers, as a list of at most one attempt. -/
def State.offers (s : State) (p : Port) (h : Holder) : List Attempt :=
  ((s.candidate p h).map fun f => ⟨h, f⟩).toList

theorem State.candidates_eq (s : State) (p : Port) : s.candidates p = (holdersOf p).flatMap (s.offers p) :=
  List.filterMap_eq_flatMap_toList _ _

theorem State.candidate_layout {s : State} {p : Port} {h : Holder} {f : Frame} {k : FrameKind}
    (hf : s.candidate p h = some f) (hk : h.kind = some k) : ∃ c : Content, f = c.toFrame (s.ports.counters.get k) := by
  cases h with
  | slot n =>
    cases hk
    obtain ⟨c, hc⟩ := State.candidate_slot hf
    simp only [State.candidate, hc, Option.some.injEq] at hf
    exact ⟨c, hf.symm⟩
  | notice =>
    cases hk
    cases hq : s.watch.queue with
    | nil => simp [State.candidate, hq] at hf
    | cons n ns =>
      simp only [State.candidate, hq, Option.some.injEq] at hf
      exact ⟨_, hf.symm⟩
  | forward => cases hk

theorem exec_transmitStart_chosen {p : Port} {s : State} {a : Attempt} (hr : s.resetApplied = none)
    (hc : s.arbiterChoice p = some a) : exec (.transmitStart p) s = .next (s.setPorts { s.ports with
      slots := s.ports.slots.move a.holder Slot.start
      port := s.ports.port.set p { s.ports.port.get p with attempt := some a } }) := by
  show Host.Outcome.next (s.unlessReset _) = _
  rw [State.unlessReset_none _ _ hr, hc]

/-- What the frame of a content holds, for its fields in any spelling (R200). -/
theorem Content.toFrame_laidOut (c : Content) (counter : Nibble) {fields : List (Nat × Nat × Int)}
    (h : fields = c.payload.wordFields ++ raisedFields 52 c.payload.upperFields) :
    let f := c.toFrame counter
    let bitAt (k : Nat) : Bool := (f.data.getD (k / 8) 0).getLsbD (k % 8)
    f.id = c.id ∧ f.data.length = 8 ∧
      (∀ k, k < 48 ∨ (52 ≤ k ∧ k < 56) → (bitAt k = true ↔ SetsBit fields k)) ∧
      (∀ k, k < 4 → bitAt (48 + k) = counter.getLsbD k) ∧
      (f.data.getD 7 0).toNat = 255 - (((f.data.take 7).map BitVec.toNat).sum + f.id.toNat % 256) % 256 := by
  subst h
  exact ⟨rfl, rfl, fun k hk => c.toFrame_bits counter hk, fun k hk => c.toFrame_counter counter hk,
    checkByte_toNat c.id _⟩

/-- Settles O47: the arbiter's choice by induction over the candidates before it; the layout field by field. -/
theorem transmitStartTakesTheLowestCandidate : Obligations.TransmitStartTakesTheLowestCandidate := by
  refine ⟨fun p s hr honline hidle => ⟨fun hnone => ?_, fun pre a post hc hpre hpost => ?_, fun a ha k hk => ?_⟩,
    fun p s => ?_, fun c counter => ?_⟩
  case refine_1 =>
    have hchoice : s.arbiterChoice p = none := by
      rw [State.arbiterChoice, if_neg (not_or.2 ⟨honline, by simp [hidle]⟩), hnone, lowest]
    show Host.Outcome.next (s.unlessReset _) = _
    rw [State.unlessReset_none _ _ hr, hchoice]
  case refine_2 =>
    have hchoice : s.arbiterChoice p = some a := by
      rw [State.arbiterChoice, if_neg (not_or.2 ⟨honline, by simp [hidle]⟩), hc, lowest_eq hpre hpost]
    refine ⟨_, exec_transmitStart_chosen hr hchoice, rfl, fun n hn => ?_, fun n hn => ?_⟩
    · exact (Slots.get_move _ _ _ _).trans (if_neg hn)
    · have hcandidate := (State.arbiterChoice_eq_some hchoice).2.2.2
      rw [hn] at hcandidate
      obtain ⟨c, hwaits⟩ := State.candidate_slot hcandidate
      refine ⟨c, hwaits, (Slots.get_move _ _ _ _).trans ((if_pos hn).trans ?_)⟩
      rw [hwaits, Slot.start]
  case refine_3 =>
    obtain ⟨c, hc⟩ := State.candidate_layout ((s.mem_candidates p a).1 ha).2 hk
    rw [hc]
    exact ⟨rfl, counterOf_frameBytes _ _ _ _, rfl⟩
  case refine_4 =>
    intro slot forward notice
    have hslot : ∀ n, s.offers p (.slot n) = slot n := fun n => by
      simp only [State.offers, State.candidate, slot]
      cases s.ports.slots.get n <;> rfl
    have hforward : s.offers p .forward = forward := by
      simp only [State.offers, State.candidate, forward]
      cases (s.forward.get p).frames <;> rfl
    have hnotice : s.offers p .notice = notice := by
      simp only [State.offers, State.candidate, notice]
      cases s.watch.queue <;> rfl
    rw [State.candidates_eq]
    cases p with
    | portD =>
      simp only [holdersOf, List.flatMap_cons, List.flatMap_nil, hslot, hforward, List.append_nil, List.append_assoc]
    | portU =>
      simp only [holdersOf, List.flatMap_cons, List.flatMap_nil, hslot, hforward, hnotice, List.append_nil,
        List.append_assoc]
  case refine_5 =>
    obtain ⟨id, payload⟩ := c
    cases payload with
    | engineCmd mode torque speed => exact Content.toFrame_laidOut _ counter (by cases mode <;> rfl)
    | inverterCmd mode torque => exact Content.toFrame_laidOut _ counter (by cases mode <;> rfl)
    | clutchCmd target capacity => exact Content.toFrame_laidOut _ counter (by cases target <;> rfl)
    | brakeShare friction regen => exact Content.toFrame_laidOut _ counter rfl
    | splitReport d engine motor u b mode => exact Content.toFrame_laidOut _ counter (by cases mode <;> rfl)
    | notice n =>
      refine Content.toFrame_laidOut _ counter ?_
      simp only [Payload.wordFields, Payload.upperFields, raisedFields, List.map_cons, List.map_nil, List.cons_append,
        List.nil_append, List.cons.injEq, Prod.mk.injEq, true_and, and_true]
      exact ⟨by cases n.quantity <;> rfl, by cases n.comparison <;> rfl, by cases n.mode <;> rfl⟩
    | reply tag table field index value status =>
      exact Content.toFrame_laidOut _ counter (by cases status <;> rfl)

end Sys2Proof.Machine
end

section
/-! PROOFS. The endings of an attempt (R158, R164, R176 to R179). -/

namespace Sys2Proof.Machine

theorem Counters.get_bump (x : Counters) (h : Holder) (k : FrameKind) :
    (x.bump h).get k = if h.kind = some k then x.get k + 1 else x.get k := by
  unfold Counters.bump
  cases hk : h.kind with
  | none => simp
  | some j =>
    simp only [Counters.get_set, Option.some.injEq]
    by_cases hj : k = j
    · subst hj; simp
    · simp [hj, Ne.symm hj]

@[simp] theorem State.dequeue_ports (s : State) (p : Port) (h : Holder) : (s.dequeue p h).ports = s.ports := by
  cases h <;> rfl

/-- Settles O48: the end of the attempt, and what each kind of holder leaves. -/
theorem completionEndsTheAttempt : Obligations.CompletionEndsTheAttempt := by
  intro p s a hr ha
  have hexec : exec (.transmissionCompletion p) s = .next ((s.setPorts
      { slots := s.ports.slots.move a.holder Slot.complete
        counters := s.ports.counters.bump a.holder
        port := s.ports.port.set p (PortState.settled
          { s.ports.port.get p with attempt := none, txCount := (s.ports.port.get p).txCount - 1 }) }).dequeue
            p a.holder) := by
    show Host.Outcome.next (s.unlessReset _) = _
    rw [State.unlessReset_none _ _ hr, ha]
  have hports := State.dequeue_ports (s.setPorts
      { slots := s.ports.slots.move a.holder Slot.complete
        counters := s.ports.counters.bump a.holder
        port := s.ports.port.set p (PortState.settled
          { s.ports.port.get p with attempt := none, txCount := (s.ports.port.get p).txCount - 1 }) }) p a.holder
  refine ⟨_, hexec, ?_, ?_, fun n => ?_, fun k => ?_⟩
  case refine_1 => obtain ⟨holder, frame⟩ := a; cases holder <;> rfl
  case refine_2 => intro x n; rw [hports]; rfl
  case refine_3 =>
    rw [hports, State.setPorts_ports, Slots.get_move]
    cases s.ports.slots.get n <;> rfl
  case refine_4 => rw [hports, State.setPorts_ports, Counters.get_bump]

theorem State.enterBusOff_faults (s : State) (p : Port) (i : Fin 12) : (s.enterBusOff p).faults.sources[i] =
    if p = .portD ∧ i = srcDownlinkLoss then { s.faults.sources[i] with state := .active, cond := true }
    else s.faults.sources[i] := by
  cases p with
  | portD => simp only [State.enterBusOff, State.raiseFault_sources, true_and]; rfl
  | portU => rfl

/-- The count of an attempt that ended in error, and the error state that follows it. -/
theorem PortState.txFailed_eq {x : PortState} (hx : x.error ≠ .busOff) (k : TxErrorKind) :
    let n := if x.error = .errorPassive ∧ k = .missingAck then x.txCount else min (x.txCount + 8) 256
    x.txFailed k = { x with
      txCount := n
      error := if 255 < n then .busOff else if 127 < n ∨ 127 < x.rxCount then .errorPassive else .errorActive } := by
  intro n
  have hn : (if (decide (x.error = .errorPassive) && decide (k = .missingAck)) = true then x.txCount
      else min (x.txCount + 8) 256) = n := by simp only [Bool.and_eq_true, decide_eq_true_eq, n]
  have he := PortState.settled_error_of_ne (x := { x with txCount := n }) hx
  rw [PortState.txFailed, hn, PortState.settled_frame, he]
  congr 1
  refine if_congr Iff.rfl rfl ?_
  by_cases hlow : n ≤ 127 ∧ x.rxCount ≤ 127
  · rw [if_pos hlow, if_neg (by omega)]
  · rw [if_neg hlow, if_pos (by omega)]

/-- The failure of an attempt leaves its slot WAITING with the newest content. -/
theorem Slots.get_move_fail (x : Slots) (h : Holder) (n : SlotName) : (x.move h Slot.fail).get n =
    if h = .slot n then
      (match x.get n with
      | .sending d | .sendingNext _ d | .waiting d => .waiting d
      | .empty => .empty)
    else x.get n := by
  rw [Slots.get_move]
  cases x.get n <;> rfl

/-- An attempt that ended in error, below BUS_OFF. -/
theorem State.errorAttempt_stays {s : State} {p : Port} {a : Attempt} {k : TxErrorKind}
    (h : ((s.ports.port.get p).txFailed k).error ≠ .busOff) :
    s.errorAttempt p a k = s.setPorts { s.ports with
      slots := s.ports.slots.move a.holder Slot.fail
      port := s.ports.port.set p { (s.ports.port.get p).txFailed k with attempt := none } } := by
  simp only [State.errorAttempt, State.failAttempt_attempt]
  have herror : (PortState.txFailed { s.ports.port.get p with attempt := none } k).error =
      ((s.ports.port.get p).txFailed k).error := rfl
  rw [if_neg (by simpa [State.setPort, herror] using h)]
  simp only [State.failAttempt, State.setPort, State.setPorts_ports, ByPort.set_set]
  rfl

/-- An attempt that ended in error and took its port into BUS_OFF. -/
theorem State.errorAttempt_busOff {s : State} {p : Port} {a : Attempt} {k : TxErrorKind}
    (h : ((s.ports.port.get p).txFailed k).error = .busOff) :
    s.errorAttempt p a k = (s.setPorts { s.ports with
      slots := s.ports.slots.move a.holder Slot.fail
      port := s.ports.port.set p { (s.ports.port.get p).txFailed k with attempt := none } }).enterBusOff p := by
  simp only [State.errorAttempt, State.failAttempt_attempt]
  have herror : (PortState.txFailed { s.ports.port.get p with attempt := none } k).error =
      ((s.ports.port.get p).txFailed k).error := rfl
  rw [if_pos (by simpa [State.setPort, herror] using h)]
  simp only [State.failAttempt, State.setPort, State.setPorts_ports, ByPort.set_set]
  rfl

theorem State.enterBusOff_slots (s : State) (p : Port) : (s.enterBusOff p).ports.slots = s.ports.slots := by
  cases p <;> rfl

theorem State.enterBusOff_forward (s : State) (p : Port) :
    (s.enterBusOff p).forward = s.forward.set p { s.forward.get p with frames := [] } := by cases p <;> rfl

theorem exec_arbitrationLost {p : Port} {s : State} {a : Attempt} (hr : s.resetApplied = none)
    (ha : (s.ports.port.get p).attempt = some a) : exec (.arbitrationLost p) s = .next (s.failAttempt p a) := by
  show Host.Outcome.next (s.unlessReset _) = _
  rw [State.unlessReset_none _ _ hr, ha]

theorem exec_transmitError {p : Port} {k : TxErrorKind} {s : State} {a : Attempt} (hr : s.resetApplied = none)
    (ha : (s.ports.port.get p).attempt = some a) : exec (.transmitError p k) s = .next (s.errorAttempt p a k) := by
  show Host.Outcome.next (s.unlessReset _) = _
  rw [State.unlessReset_none _ _ hr, ha]
  rfl

/-- Settles O49: the two endings, and whether the count passes 255. -/
theorem failedAttemptsFollowTheErrorTable : Obligations.FailedAttemptsFollowTheErrorTable := by
  rintro p k c s a hr ha hc (rfl | rfl)
  · refine ⟨_, exec_arbitrationLost hr ha, rfl, fun n => Slots.get_move_fail _ _ n, ?_⟩
    intro x n stays
    exact ⟨fun _ => ⟨⟨rfl, rfl⟩, rfl⟩, nofun, nofun⟩
  · have hbelow : (s.ports.port.get p).error ≠ .busOff := fun he => by rw [(hc.busOff he).2] at ha; cases ha
    have heq := PortState.txFailed_eq hbelow k
    by_cases hbus : ((s.ports.port.get p).txFailed k).error = .busOff
    · have hstate := State.errorAttempt_busOff (a := a) hbus
      refine ⟨_, (exec_transmitError hr ha).trans (congrArg _ hstate), ?_, fun n => ?_, ?_⟩
      · cases p <;> rfl
      · rw [State.enterBusOff_slots]
        exact Slots.get_move_fail _ _ n
      · intro x n stays
        replace heq : x.txFailed k = { x with
          txCount := n
          error := if 255 < n then .busOff
            else if 127 < n ∨ 127 < x.rxCount then .errorPassive else .errorActive } := heq
        refine ⟨nofun, fun _ hn => ?_, fun _ hn => ⟨?_, ?_, fun i hi => ?_, fun hp => ?_⟩⟩
        · have hlow : (x.txFailed k).error ≠ .busOff := by
            rw [heq, if_neg (Nat.not_lt.2 hn)]
            split <;> nofun
          exact absurd hbus hlow
        · rw [State.enterBusOff_port]
          show (s.ports.port.set p { x.txFailed k with attempt := none }).set p
            { (s.ports.port.set p { x.txFailed k with attempt := none }).get p with recovery := 0 } = _
          rw [ByPort.set_set, ByPort.get_set_self, heq, if_pos hn]
        · exact State.enterBusOff_forward _ _
        · rw [State.enterBusOff_faults, if_neg]
          · rfl
          · rintro ⟨rfl, rfl⟩
            exact hi.elim (fun h => h rfl) nofun
        · rw [State.enterBusOff_faults, if_pos ⟨hp, rfl⟩]
          exact ⟨rfl, rfl⟩
    · have hstate := State.errorAttempt_stays (a := a) hbus
      refine ⟨_, (exec_transmitError hr ha).trans (congrArg _ hstate), rfl, fun n => Slots.get_move_fail _ _ n, ?_⟩
      intro x n stays
      replace heq : x.txFailed k = { x with
        txCount := n
        error := if 255 < n then .busOff
          else if 127 < n ∨ 127 < x.rxCount then .errorPassive else .errorActive } := heq
      refine ⟨nofun, fun _ hn => ⟨⟨rfl, rfl⟩, ?_⟩, fun _ hn => ?_⟩
      · show s.ports.port.set p { x.txFailed k with attempt := none } = _
        rw [heq, if_neg (Nat.not_lt.2 hn)]
      · refine absurd ?_ hbus
        show (x.txFailed k).error = .busOff
        rw [heq, if_pos hn]

end Sys2Proof.Machine
end

section
/-! PROOFS. What a request that is taken leaves: its answer and its one reply (R182, R183), and the active side of the
Table Store that no answer touches. -/

namespace Sys2Proof.Machine

/-! ### The reply of a request that is taken -/

/-- A request that finds its reply slot EMPTY leaves what its answer leaves, with its reply waiting. -/
theorem State.takeRequest_withReply {s : State} {q : Requester} (h : s.ports.slots.get (replySlot q) = .empty)
    (r : Request) : s.takeRequest q r = (s.answer q r).state.withReply q r.tag r.table r.field r.index
      (s.answer q r).value (s.answer q r).status := by
  have hslot : (s.answer q r).state.ports.slots.get (replySlot q) = .empty := by simpa using h
  rw [State.takeRequest_taken _ _ _ h, State.place_empty _ _ _ hslot]
  simp only [State.withReply, replyOf, State.answer_keeps]

theorem State.request_taken {s : State} {q : Requester} (h : s.Takes q) (r : Request) :
    s.request q r = (s.answer q r).state.withReply q r.tag r.table r.field r.index (s.answer q r).value
      (s.answer q r).status := by
  rw [State.request, State.unlessReset_none _ _ h.noReset, if_neg h.online, State.takeRequest_withReply h.slot]

/-- A management command that is taken. -/
theorem exec_taken {c : Instr} {s : State} {q : Requester} {r : Request} (hc : commandRequest c = some (q, r))
    (h : s.Takes q) : exec c s = .next ((s.answer q r).state.withReply q r.tag r.table r.field r.index
      (s.answer q r).value (s.answer q r).status) := by
  rw [exec_commandRequest hc, State.request_taken h]

/-- A management command whose answer is known. -/
theorem exec_answered {c : Instr} {s : State} {q : Requester} {r : Request} (hc : commandRequest c = some (q, r))
    (h : s.Takes q) {a : Answer} (ha : s.answer q r = a) :
    exec c s = .next (a.state.withReply q r.tag r.table r.field r.index a.value a.status) := by
  rw [exec_taken hc h, ha]

/-! ### Refusals (R183) -/

/-- An answer with a status other than OK changes nothing and carries 0, but for CONDITION_PRESENT. -/
def Answer.RefusesWhole (a : Answer) (s : State) : Prop :=
  a.status ≠ .ok → a.state = s ∧ (a.status ≠ .conditionPresent → a.value = 0)

theorem Answer.RefusesWhole.refused (s : State) (st : Status) : Answer.RefusesWhole ⟨st, 0, s⟩ s :=
  fun _ => ⟨rfl, fun _ => rfl⟩

theorem Answer.RefusesWhole.ok (s t : State) (v : Value24) : Answer.RefusesWhole ⟨.ok, v, t⟩ s :=
  fun h => absurd rfl h

theorem answerWith_refusesWhole (s : State) (st : Status) (v : Value24) (t : State) :
    (answerWith s st v t).RefusesWhole s := by
  rcases answerWith_cases s st v t with ⟨-, e⟩ | ⟨-, e⟩ <;> rw [e]
  · exact .ok _ _ _
  · exact .refused _ _

theorem State.answerAck_refusesWhole (s : State) (r : Request) : (s.answerAck r).RefusesWhole s := by
  unfold State.answerAck
  split
  case h_1 =>
    rcases s.answerAckFault_cases r.indexNo with ⟨-, e⟩ | ⟨hi, -, e⟩ | ⟨hi, -, e⟩ <;> rw [e]
    · exact .refused _ _
    · exact fun _ => ⟨rfl, fun h => absurd rfl h⟩
    · exact .ok _ _ _
  case h_2 =>
    unfold State.answerAckWatch
    split
    · exact .ok _ _ _
    · exact .refused _ _
  case h_3 => exact .ok _ _ _
  case h_4 => exact .ok _ _ _
  case h_5 => exact .refused _ _

theorem State.answerStatus_refusesWhole (s : State) (q : Requester) (r : Request) :
    (s.answerStatus q r).RefusesWhole s := by
  unfold State.answerStatus
  split_ifs
  · exact .refused _ _
  · exact .refused _ _
  · exact .ok _ _ _
  · split
    · exact .ok _ _ _
    · exact .refused _ _

theorem State.answer_refusesWhole (s : State) (q : Requester) (r : Request) : (s.answer q r).RefusesWhole s := by
  unfold State.answer
  split
  case h_1 => exact .refused _ _
  case h_2 =>
    unfold State.answerRead
    split
    · exact .refused _ _
    · exact answerWith_refusesWhole _ _ _ _
  case h_3 =>
    unfold State.answerReadHold
    split
    · exact answerWith_refusesWhole _ _ _ _
    · exact .refused _ _
    · exact .refused _ _
  case h_4 =>
    unfold State.answerWrite
    split
    · exact .refused _ _
    · exact answerWith_refusesWhole _ _ _ _
  case h_5 => exact .ok _ _ _
  case h_6 => exact answerWith_refusesWhole _ _ _ _
  case h_7 => exact answerWith_refusesWhole _ _ _ _
  case h_8 => exact answerWith_refusesWhole _ _ _ _
  case h_9 => exact s.answerAck_refusesWhole r
  case h_10 => exact s.answerStatus_refusesWhole q r

/-! ### The active bank (R2, R20) -/

theorem TableStore.shadow_ne_selector (t : TableStore) : t.selector ≠ t.shadow := by
  unfold TableStore.shadow
  cases t.selector <;> decide

/-- The active bank, the selector, the working parameters and the active bank's verified flag. -/
def TableStore.activeSide (t : TableStore) : Bank × BankName × WorkingParams × Bool :=
  (t.bank t.selector, t.selector, t.wp, t.verified t.selector)

theorem TableStore.activeSide_setVerified (t : TableStore) (v : Bool) :
    (t.setVerified t.shadow v).activeSide = t.activeSide := by
  simp only [TableStore.activeSide, TableStore.setVerified_selector, TableStore.bank_setVerified,
    TableStore.setVerified_wp, TableStore.verified_setVerified, if_neg t.shadow_ne_selector]

theorem TableStore.activeSide_putBank (t : TableStore) (tbl : BankTable) (i : Nat) (f : BankFields) :
    (t.putBank t.shadow tbl i f).activeSide = t.activeSide := by
  have hbank : (t.writeBank t.shadow tbl i (.passing f)).activeSide = t.activeSide := by
    have hne := t.shadow_ne_selector
    unfold TableStore.writeBank
    generalize t.shadow = b at hne ⊢
    simp only [TableStore.activeSide]
    cases b with
    | bankA => cases hsel : t.selector with
      | bankA => exact absurd hsel hne
      | bankB => simp [TableStore.setBank, TableStore.bank, TableStore.verified, hsel]
    | bankB => cases hsel : t.selector with
      | bankA => simp [TableStore.setBank, TableStore.bank, TableStore.verified, hsel]
      | bankB => exact absurd hsel hne
  have hshadow : (t.writeBank t.shadow tbl i (.passing f)).shadow = t.shadow := by simp [TableStore.writeBank]
  have hflag := TableStore.activeSide_setVerified (t.writeBank t.shadow tbl i (.passing f)) false
  rw [hshadow] at hflag
  exact hflag.trans hbank

/-- What a request may make of the active side of the tables and of the Regime Controller: nothing, but that the crank
attempt count may be set to 0. -/
structure State.Managed (s t : State) : Prop where
  tables : t.tables.activeSide = s.tables.activeSide
  regime : t.regime = s.regime ∨ t.regime = { s.regime with attempts := 0 }

theorem State.Managed.refl (s : State) : s.Managed s := ⟨rfl, .inl rfl⟩

theorem State.Managed.answerWith {s t : State} (h : s.Managed t) (st : Status) (v : Value24) :
    s.Managed (answerWith s st v t).state := by
  rcases answerWith_state s st v t with e | ⟨-, e⟩ <;> rw [e]
  · exact .refl s
  · exact h

theorem State.writeField_managed {s t : State} {name : TableName} {i field : Nat} {v : Int}
    (h : s.writeField name i field v = some t) : s.Managed t := by
  rcases State.writeField_cases h with ⟨tbl, f, _, _, rfl⟩ | ⟨_, _, _, _, rfl⟩ | ⟨_, _, _, _, rfl⟩ | ⟨_, _, _, rfl⟩ |
    ⟨_, _, _, rfl⟩
  · exact ⟨s.tables.activeSide_putBank _ _ _, .inl rfl⟩
  all_goals exact ⟨rfl, .inl rfl⟩

theorem State.resetEntry_managed (s : State) (name : TableName) (i : Nat) : s.Managed (s.resetEntry name i) := by
  cases name with
  | bank tbl => exact ⟨s.tables.activeSide_putBank _ _ _, .inl rfl⟩
  | live l => cases l with
    | forward =>
      simp only [State.resetEntry]
      split
      · exact ⟨rfl, .inl rfl⟩
      · exact ⟨rfl, .inl rfl⟩
    | watch => exact ⟨rfl, .inl rfl⟩
    | faultMap => exact ⟨rfl, .inl rfl⟩

theorem State.writeApplied_managed (s : State) (q : Requester) (r : Request) (name : TableName) :
    s.Managed (s.writeApplied q r name) := by
  have hrenew {t : State} (h : s.Managed t) : s.Managed (t.renewIfHeld q name r.indexNo) :=
    ⟨by simpa using h.tables, by simpa using h.regime⟩
  unfold State.writeApplied
  refine hrenew ?_
  split
  · exact s.resetEntry_managed name _
  · cases hw : s.writeField name r.indexNo r.fieldNo (writtenValue name r.indexNo r.fieldNo r.value) with
    | none => exact .refl s
    | some t => exact State.writeField_managed hw

theorem State.answerAck_managed (s : State) (r : Request) : s.Managed (s.answerAck r).state := by
  unfold State.answerAck
  split
  · rcases s.answerAckFault_cases r.indexNo with ⟨-, e⟩ | ⟨hi, -, e⟩ | ⟨hi, -, e⟩ <;> rw [e]
    · exact .refl s
    · exact .refl s
    · split
      · exact ⟨rfl, .inr rfl⟩
      · exact ⟨rfl, .inl rfl⟩
  · unfold State.answerAckWatch
    split
    · exact ⟨rfl, .inl rfl⟩
    · exact .refl s
  · exact ⟨rfl, .inl rfl⟩
  · exact ⟨rfl, .inl rfl⟩
  · exact .refl s

theorem State.answer_managed (s : State) (q : Requester) (r : Request) : s.Managed (s.answer q r).state := by
  unfold State.answer
  split
  case h_1 => exact .refl s
  case h_2 =>
    unfold State.answerRead
    split
    · exact .refl s
    · exact (State.Managed.refl s).answerWith _ _
  case h_3 =>
    unfold State.answerReadHold
    split
    · next l _ => exact State.Managed.answerWith (s := s) (t := s.holdEntry q ⟨l, r.indexNo⟩) ⟨rfl, .inl rfl⟩ _ _
    · exact .refl s
    · exact .refl s
  case h_4 =>
    unfold State.answerWrite
    split
    · exact .refl s
    · exact (s.writeApplied_managed _ _ _).answerWith _ _
  case h_5 => exact ⟨rfl, .inl rfl⟩
  case h_6 =>
    exact State.Managed.answerWith (s := s) (t := s.startCopy) ⟨s.tables.activeSide_setVerified false, .inl rfl⟩ _ _
  case h_7 => exact State.Managed.answerWith (s := s) (t := s.startCommit) ⟨rfl, .inl rfl⟩ _ _
  case h_8 =>
    have hcancel : s.Managed (s.setTables { s.tables with swapPending := false }) := ⟨rfl, .inl rfl⟩
    exact hcancel.answerWith _ _
  case h_9 => exact s.answerAck_managed r
  case h_10 =>
    unfold State.answerStatus
    split_ifs
    · exact .refl s
    · exact .refl s
    · exact ⟨rfl, .inl rfl⟩
    · split <;> exact .refl s

/-! ### A frame that cannot be taken as a request (R184 order 1) -/

theorem ReqKind.ofCode_eq_none {n : Nat} (h : 8 < n) : ReqKind.ofCode n = none :=
  List.getElem?_eq_none h

theorem TableName.ofCode_eq_none {n : Nat} (h : 10 < n) : TableName.ofCode n = none :=
  List.getElem?_eq_none h

theorem TableName.ofCode_bank {n : Nat} (h : n < 8) : ∃ tbl, TableName.ofCode n = some (.bank tbl) := by
  interval_cases n <;> exact ⟨_, rfl⟩

/-- A READ, READ_HOLD or WRITE of a table code without a meaning. -/
theorem State.answer_untabled {s : State} {q : Requester} {r : Request} (ht : r.tableName = none)
    (hk : r.kind = some .read ∨ r.kind = some .readHold ∨ r.kind = some .write) :
    s.answer q r = ⟨.badRequest, 0, s⟩ := by
  rcases hk with hk | hk | hk <;> simp only [State.answer, hk]
  · simp only [State.answerRead, ht]
  · simp only [State.answerReadHold, ht]
  · simp only [State.answerWrite, ht]

theorem State.answer_unkinded {s : State} {q : Requester} {r : Request} (hk : r.kind = none) :
    s.answer q r = ⟨.badRequest, 0, s⟩ := by
  simp only [State.answer, hk]

/-- A READ_HOLD of a bank table. -/
theorem State.answer_heldBank {s : State} {q : Requester} {r : Request} {tbl : BankTable}
    (ht : r.tableName = some (.bank tbl)) (hk : r.kind = some .readHold) : s.answer q r = ⟨.badRequest, 0, s⟩ := by
  simp only [State.answer, hk, State.answerReadHold, ht]

theorem State.answer_malformed (s : State) (q : Requester) {bytes : List Byte} (h : malformedBytes bytes = true) :
    s.answer q (Request.ofBytes bytes) = ⟨.badRequest, 0, s⟩ := by
  by_cases hlen : bytes.length = 8
  · have hkind : (Request.ofBytes bytes).kind = ReqKind.ofCode ((bytes.getD 0 0).extractLsb' 0 4).toNat := if_pos hlen
    have htable : (Request.ofBytes bytes).tableName = TableName.ofCode ((bytes.getD 2 0).extractLsb' 0 4).toNat := rfl
    simp only [malformedBytes, hlen, Bool.or_eq_true, Bool.and_eq_true, decide_eq_true_eq] at h
    generalize ((bytes.getD 0 0).extractLsb' 0 4).toNat = k at h hkind
    generalize ((bytes.getD 2 0).extractLsb' 0 4).toNat = n at h htable
    rcases h with ((h | h) | ⟨hk, hn⟩) | ⟨rfl, hn⟩
    · exact absurd rfl h
    · exact State.answer_unkinded (hkind.trans (ReqKind.ofCode_eq_none h))
    · refine State.answer_untabled (htable.trans (TableName.ofCode_eq_none hn)) ?_
      rw [hkind]
      interval_cases k <;> decide
    · obtain ⟨tbl, htbl⟩ := TableName.ofCode_bank hn
      exact State.answer_heldBank (htable.trans htbl) hkind
  · exact State.answer_unkinded (if_neg hlen)

/-! ### Requests in every state -/

theorem State.takeRequest_managed (s : State) (q : Requester) (r : Request) : s.Managed (s.takeRequest q r) := by
  by_cases hslot : s.ports.slots.get (replySlot q) = .empty
  · obtain ⟨htables, hregime⟩ := s.answer_managed q r
    rw [State.takeRequest_taken _ _ _ hslot]
    exact ⟨by simpa using htables, by simpa using hregime⟩
  · rw [State.takeRequest_overrun _ _ _ hslot]
    exact ⟨rfl, .inl rfl⟩

theorem State.request_managed (s : State) (q : Requester) (r : Request) : s.Managed (s.request q r) := by
  unfold State.request State.unlessReset
  split
  · split
    · exact .refl s
    · exact s.takeRequest_managed q r
  · exact .refl s

/-- The blocks an answer may touch. -/
theorem State.answer_frame (s : State) (q : Requester) (r : Request) :
    let t := (s.answer q r).state
    t = { s with
      tables := t.tables, regime := t.regime, faults := t.faults, watch := t.watch, forward := t.forward
      mgmt := t.mgmt } := by
  obtain ⟨hintake, hlimits, hsplit, hports, hid, hrate, hreset, hix, hpending⟩ := s.answer_keeps q r
  generalize (s.answer q r).state = t at *
  intro t'
  rw [← hintake, ← hlimits, ← hsplit, ← hports, ← hid, ← hrate, ← hreset, ← hix, ← hpending]

/-- Settles O51: the one reply of a request that is taken, and what no request touches. -/
theorem requestsAreAnsweredOnceOrOverrun : Obligations.RequestsAreAnsweredOnceOrOverrun := by
  intro c q r s hc
  refine ⟨fun hr honline => ⟨fun hslot => ?_, fun hslot => ?_⟩, fun t ht => ?_⟩
  case refine_1 =>
    rw [exec_commandRequest hc, State.request, State.unlessReset_none _ _ hr, if_neg honline,
      State.takeRequest_overrun _ _ _ hslot]
    rfl
  case refine_2 =>
    have hrefuses := s.answer_refusesWhole q r
    have hframe := s.answer_frame q r
    refine ⟨_, (s.answer q r).value, (s.answer q r).status, exec_taken hc ⟨hr, honline, hslot⟩, ?_, fun hst => ?_,
      fun bytes hbytes hbad => ?_⟩
    · generalize (s.answer q r).state = t at hframe ⊢
      generalize (s.answer q r).value = v
      generalize (s.answer q r).status = st
      rw [hframe]
      rfl
    · obtain ⟨hstate, hvalue⟩ := hrefuses hst
      rw [hstate]
      exact ⟨rfl, hvalue⟩
    · subst hbytes
      cases hc
      rw [State.answer_malformed s q hbad]
  case refine_3 =>
    obtain ⟨htables, hregime⟩ := s.request_managed q r
    rw [exec_commandRequest hc] at ht
    cases ht
    simp only [TableStore.activeSide, Prod.mk.injEq] at htables
    obtain ⟨hbank, hselector, hwp, hverified⟩ := htables
    rw [hselector] at hbank hverified
    refine ⟨hbank, hselector, hwp, hverified, ?_, ?_⟩
    · rcases hregime with h | h <;> rw [h]
    · exact hregime.imp (congrArg RegimeState.attempts) (congrArg RegimeState.attempts)

end Sys2Proof.Machine
end

section
/-! PROOFS. The bank operations, the acknowledgements and the status reads (R189, R193 to R196). -/

namespace Sys2Proof.Machine

/-! ### The interlocks (R189, R190) -/

theorem State.wrongRegimeFor_iff (s : State) (q : Requester) :
    s.wrongRegimeFor q = true ↔ q = .service ∧ s.regime.mode ≠ .standby ∧ s.regime.mode ≠ .safe := by
  cases q <;> simp [State.wrongRegimeFor, State.inStandbyOrSafe]

theorem State.walkOrCopy_iff (s : State) :
    s.walkOrCopy = true ↔ s.tables.walk.isRunning = true ∨ s.tables.copy ≠ none := by
  simp [State.walkOrCopy, TableStore.copyRunning, Option.isSome_iff_ne_none]

theorem State.bankBusy_iff (s : State) : s.bankBusy = true ↔
    (s.tables.walk.isRunning = true ∨ s.tables.copy ≠ none) ∨ s.tables.swapPending = true := by
  rw [State.bankBusy, Bool.or_eq_true, State.walkOrCopy_iff]

/-- A list of tests whose first test fails. -/
theorem firstStatus_fails {st : Status} {b : Bool} {rest : List (Status × Bool)} (h : b = true) :
    firstStatus ((st, b) :: rest) = st := by
  rw [firstStatus, if_pos h]

/-- A list of tests whose first test passes. -/
theorem firstStatus_passes {st : Status} {b : Bool} {rest : List (Status × Bool)} (h : ¬ b = true) :
    firstStatus ((st, b) :: rest) = firstStatus rest := by
  rw [firstStatus, if_neg h]

/-- An operation on the banks by its two tests: refused in the wrong regime, else refused while busy, else applied. -/
theorem bankTests_cases (s : State) (w b : Bool) (t : State) :
    (w = true → answerWith s (firstStatus [(.wrongRegime, w), (.busy, b)]) 0 t = ⟨.wrongRegime, 0, s⟩) ∧
    (¬ w = true → b = true → answerWith s (firstStatus [(.wrongRegime, w), (.busy, b)]) 0 t = ⟨.busy, 0, s⟩) ∧
    (¬ w = true → ¬ b = true → answerWith s (firstStatus [(.wrongRegime, w), (.busy, b)]) 0 t = ⟨.ok, 0, t⟩) := by
  refine ⟨fun hw => ?_, fun hw hb => ?_, fun hw hb => ?_⟩
  · rw [firstStatus_fails hw]; rfl
  · rw [firstStatus_passes hw, firstStatus_fails hb]; rfl
  · rw [firstStatus_passes hw, firstStatus_passes hb]; rfl

theorem State.startCopy_eq (s : State) : s.startCopy = { s with tables := (match s.tables.selector with
    | .bankA => { s.tables with copy := some 0, verifiedB := false }
    | .bankB => { s.tables with copy := some 0, verifiedA := false }) } := by
  unfold State.startCopy TableStore.shadow
  cases s.tables.selector <;> rfl

/-- Settles O57: the two tests of the bank operations, in their order. -/
theorem bankOperationsFollowTheInterlocks : Obligations.BankOperationsFollowTheInterlocks := by
  intro q tag echo s emptied
  refine ⟨fun hr hwindow => ?_, fun h => ?_⟩
  case refine_1 =>
    show Host.Outcome.next (s.unlessReset _) = _
    rw [State.unlessReset_none _ _ hr, if_pos hwindow]
    rfl
  intro replied wrong inFlight busy
  have hwrong : s.wrongRegimeFor q = true ↔ wrong := s.wrongRegimeFor_iff q
  have hflight : s.walkOrCopy = true ↔ inFlight := s.walkOrCopy_iff
  have hbusy : s.bankBusy = true ↔ busy := s.bankBusy_iff
  obtain ⟨hcopyWrong, hcopyBusy, hcopyOk⟩ := bankTests_cases s (s.wrongRegimeFor q) s.bankBusy s.startCopy
  obtain ⟨hcommitWrong, hcommitBusy, hcommitOk⟩ := bankTests_cases s (s.wrongRegimeFor q) s.bankBusy s.startCommit
  obtain ⟨hcancelWrong, hcancelBusy, hcancelOk⟩ := bankTests_cases s (s.wrongRegimeFor q) s.walkOrCopy
    (s.setTables { s.tables with swapPending := false })
  rw [hwrong] at hcopyWrong hcopyBusy hcopyOk hcommitWrong hcommitBusy hcommitOk hcancelWrong hcancelBusy hcancelOk
  rw [hbusy] at hcopyBusy hcopyOk hcommitBusy hcommitOk
  rw [hflight] at hcancelBusy hcancelOk
  have copy {a : Answer} (ha : s.answerCopy q = a) := exec_answered (c := .copy q tag echo) rfl h ha
  have commit {a : Answer} (ha : s.answerCommit q = a) := exec_answered (c := .commit q tag echo) rfl h ha
  have cancel {a : Answer} (ha : s.answerCancel q = a) := exec_answered (c := .cancel q tag echo) rfl h ha
  refine ⟨exec_taken (c := .release q tag echo) rfl h,
    fun hw => ⟨copy (hcopyWrong hw), commit (hcommitWrong hw), cancel (hcancelWrong hw)⟩,
    fun hw hb => ⟨copy (hcopyBusy hw hb), commit (hcommitBusy hw hb)⟩,
    fun hw hb => ⟨(copy (hcopyOk hw hb)).trans ?_, commit (hcommitOk hw hb)⟩,
    fun hw hb => cancel (hcancelBusy hw hb), fun hw hb => cancel (hcancelOk hw hb)⟩
  exact congrArg (fun t : State => Host.Outcome.next (t.withReply q tag echo.table echo.field echo.index 0 .ok))
    s.startCopy_eq

/-! ### Acknowledgements (R194) -/

/-- A frame of a request identifier on Port U is the request its bytes spell, once the receive count has moved. -/
theorem exec_requestFrame {s : State} {q : Requester} {f : Frame} (hr : s.resetApplied = none)
    (honline : s.ports.port.u.error ≠ .busOff) (hid : f.id = requestIdent s.strapId q) (hlen : f.data.length ≤ 8) :
    exec (.frameReceived .portU f) s = .next ((s.countReceived .portU).takeRequest q (Request.ofBytes f.data)) := by
  have hreceives : s.receives .portU = true := decide_eq_true honline
  show Host.Outcome.next (s.unlessReset _) = _
  rw [State.unlessReset_none _ _ hr, if_pos ⟨hreceives, hlen⟩, State.classifyFrame]
  have huse : mgmtUse (s.countReceived .portU).strapId f.id = .request q := by
    rw [hid]; exact mgmtUse_request s.strapId q
  rw [huse]

/-- An acknowledgement of no target. -/
theorem State.answerAck_untargeted (s : State) {r : Request} (h : r.fieldNo = 0 ∨ 4 < r.fieldNo) :
    s.answerAck r = ⟨.badField, 0, s⟩ := by
  unfold State.answerAck
  split <;> first | rfl | omega

theorem FaultSource.acked_of_ne {x : FaultSource} (h : x.state ≠ .active) : x.acked = { x with state := .clear } := by
  unfold FaultSource.acked
  cases hst : x.state with
  | active => exact absurd hst h
  | clear => rfl
  | awaitAck => rfl

/-- Settles O58: each target by its index, and an ACK of no target. -/
theorem acknowledgementsClearTheirTargets : Obligations.AcknowledgementsClearTheirTargets := by
  intro q tag table index s h
  refine ⟨fun i hi => ⟨fun hactive => ?_, fun hactive => ?_⟩, fun f hid hlen hkind => ?_, fun hi => ?_, fun i hi => ?_,
    fun hi => ?_, exec_taken (c := .ackCell q tag table index) rfl h,
    exec_taken (c := .ackFlags q tag table index) rfl h⟩
  case refine_1 =>
    have ha : s.answerAckFault index.toNat = ⟨.conditionPresent, 1, s⟩ := by
      rw [hi]
      rcases s.answerAckFault_cases i.val with ⟨hge, -⟩ | ⟨hlt, -, e⟩ | ⟨hlt, hne, -⟩
      · exact absurd i.isLt (by omega)
      · exact e
      · exact absurd hactive hne
    exact exec_answered (r := ⟨some .ack, tag, .active, table, 1, index, 0⟩) rfl h ha
  case refine_2 =>
    have ha : s.answerAckFault index.toNat = ⟨.ok, 0, { s with
        faults := ⟨s.faults.sources.set i { s.faults.sources[i] with state := .clear }⟩
        regime := if i = srcCrankFail then { s.regime with attempts := 0 } else s.regime }⟩ := by
      rw [hi]
      rcases s.answerAckFault_cases i.val with ⟨hge, -⟩ | ⟨hlt, hyes, -⟩ | ⟨hlt, hne, e⟩
      · exact absurd i.isLt (by omega)
      · exact absurd hyes hactive
      · have hfaults : s.faults.set ⟨i.val, hlt⟩ s.faults.sources[i.val].acked =
            ⟨s.faults.sources.set i { s.faults.sources[i] with state := .clear }⟩ :=
          congrArg (s.faults.set i) (FaultSource.acked_of_ne hne)
        rw [e, hfaults]
        by_cases hcrank : i = srcCrankFail
        · rw [if_pos (congrArg Fin.val hcrank), if_pos hcrank]
          rfl
        · rw [if_neg (fun hc => hcrank (Fin.ext hc)), if_neg hcrank]
          rfl
    exact exec_answered (r := ⟨some .ack, tag, .active, table, 1, index, 0⟩) rfl h ha
  case refine_3 =>
    intro field hfield
    have hslot : (s.countReceived .portU).ports.slots.get (replySlot q) = .empty := by simpa using h.slot
    have hk : (Request.ofBytes f.data).kind = some .ack := by
      show (if f.data.length = 8 then _ else none) = _
      rw [if_pos hlen, hkind]
      rfl
    have ha : (s.countReceived .portU).answer q (Request.ofBytes f.data) = ⟨.badField, 0, s.countReceived .portU⟩ := by
      simp only [State.answer, hk]
      exact State.answerAck_untargeted _ (hfield.imp (congrArg BitVec.toNat) id)
    rw [exec_requestFrame h.noReset h.online hid hlen.le, State.takeRequest_withReply hslot, ha]
    rfl
  case refine_4 =>
    refine exec_answered (r := ⟨some .ack, tag, .active, table, 1, index, 0⟩) rfl h (a := ⟨.badIndex, 0, s⟩) ?_
    exact dif_neg (Nat.not_lt.2 hi)
  case refine_5 =>
    refine exec_answered (r := ⟨some .ack, tag, .active, table, 2, index, 0⟩) rfl h (a := ⟨.ok, 0, { s with
      watch := { s.watch with cells := s.watch.cells.set i { s.watch.cells[i] with fired := false } } }⟩) ?_
    show s.answerAckWatch index.toNat = _
    rw [hi]
    exact dif_pos i.isLt
  case refine_6 =>
    refine exec_answered (r := ⟨some .ack, tag, .active, table, 2, index, 0⟩) rfl h (a := ⟨.badIndex, 0, s⟩) ?_
    exact dif_neg (Nat.not_lt.2 hi)

/-! ### STATUS (R195, R196) -/

/-- The pages of a snapshot have their number of lines. -/
theorem State.snapshot_sizes (s : State) (q : Requester) :
    (s.snapshot q).pages.map List.length = [3, 12, 30, 10, 10, 10, 17, 4] := by
  simp [State.snapshot, State.streamPage, streamLines, SplitRecord.lines, WatchUnit.lines, sourceIndices, watchIndices]

theorem pageSize_eq {page : Nibble} : [3, 12, 30, 10, 10, 10, 17, 4].getD page.toNat 0 = pageSize page.toNat := by
  revert page
  decide

/-- Settles O59: the four answers to a STATUS request, in the order of their tests. -/
theorem statusReadsTheSnapshot : Obligations.StatusReadsTheSnapshot := by
  intro q tag table page line s h lines
  have hlines : lines = pageSize page.toNat := pageSize_eq
  have status {a : Answer} (ha : s.answerStatus q ⟨some .status, tag, .active, table, page, line, 0⟩ = a) :=
    exec_answered (c := .statusRead q tag table page line) rfl h ha
  refine ⟨exec_taken (c := .statusCapture q tag table) rfl h, s.snapshot_sizes q, fun hpage => status (if_pos hpage),
    fun hpage hline => status ((if_neg (Nat.not_le.2 hpage)).trans (if_pos (hlines ▸ hline))),
    fun hpage hline hne => ?_⟩
  have hread : s.answerStatus q ⟨some .status, tag, .active, table, page, line, 0⟩ =
      match (s.mgmt.get q).snapshot with
      | some x => ⟨.ok, x.line page.toNat line.toNat, s⟩
      | none => ⟨.badRequest, 0, s⟩ := by
    refine (if_neg (Nat.not_le.2 hpage)).trans ((if_neg (Nat.not_le.2 (hlines ▸ hline))).trans (if_neg fun hzero => ?_))
    exact hne.elim (fun hp => hp (BitVec.eq_of_toNat_eq hzero.1)) fun hl => hl (BitVec.eq_of_toNat_eq hzero.2)
  refine ⟨fun hnone => status (a := ⟨.badRequest, 0, s⟩) ?_,
    fun x hx => status (a := ⟨.ok, x.line page.toNat line.toNat, s⟩) ?_⟩
  · rw [hread, hnone]
  · rw [hread, hx]

end Sys2Proof.Machine
end

section
/-! PROOFS. Requests as frames (R173, R181, R202): the identifiers, the bytes of a request, and the command they are. -/

namespace Sys2Proof.Machine

/-! ### What an answer reads of a request (R181) -/

/-- Two requests that are one command: the bank is read by READ and WRITE alone, the value by WRITE alone. -/
structure Request.SameCommand (r r' : Request) : Prop where
  kind : r.kind = r'.kind
  tag : r.tag = r'.tag
  table : r.table = r'.table
  field : r.field = r'.field
  index : r.index = r'.index
  bank : r'.kind = some .read ∨ r'.kind = some .write → r.bank = r'.bank
  value : r'.kind = some .write → r.value = r'.value

theorem Request.SameCommand.answer_eq {r r' : Request} (h : r.SameCommand r') (s : State) (q : Requester) :
    s.answer q r = s.answer q r' := by
  obtain ⟨kind, tag, bank, table, field, index, value⟩ := r
  obtain ⟨kind', tag', bank', table', field', index', value'⟩ := r'
  obtain ⟨hkind, htag, htable, hfield, hindex, hbank, hvalue⟩ := h
  simp only at hkind htag htable hfield hindex hbank hvalue
  subst hkind htag htable hfield hindex
  rcases kind with _ | k
  case none => rfl
  cases k with
  | read => obtain rfl := hbank (.inl rfl); rfl
  | write => obtain rfl := hbank (.inr rfl); obtain rfl := hvalue rfl; rfl
  | readHold =>
    simp only [State.answer, State.answerReadHold, Request.tableName]
    split
    · rfl
    · rfl
    · rfl
  | release => rfl
  | copy => rfl
  | commit => rfl
  | cancel => rfl
  | ack => rfl
  | status => rfl

theorem Request.SameCommand.takeRequest_eq {r r' : Request} (h : r.SameCommand r') (s : State) (q : Requester) :
    s.takeRequest q r = s.takeRequest q r' := by
  unfold State.takeRequest replyOf
  rw [h.answer_eq, h.tag, h.table, h.field, h.index]

/-! ### The bytes of a request (R202) -/

/-- Three bytes as a number, the first most significant. -/
theorem toNat_append_bytes (x y z : Byte) :
    (x ++ y ++ z : Value24).toNat = z.toNat + 256 * y.toNat + 65536 * x.toNat := by
  have hy := y.isLt
  have hz := z.isLt
  rw [BitVec.toNat_append, BitVec.toNat_append, ← Nat.shiftLeft_add_eq_or_of_lt hy, ← Nat.shiftLeft_add_eq_or_of_lt hz,
    Nat.shiftLeft_eq, Nat.shiftLeft_eq]
  omega

/-- A value is its three bytes. -/
theorem append_extract_bytes (v : Value24) :
    (v.extractLsb' 16 8 ++ v.extractLsb' 8 8 ++ v.extractLsb' 0 8 : Value24) = v := by
  refine BitVec.eq_of_getLsbD_eq fun k hk => ?_
  simp only [BitVec.getLsbD_append, BitVec.getLsbD_extractLsb']
  split
  · next h => simp [h]
  · next h =>
    split
    · next h' => simp [h', show 8 + (k - 8) = k by omega]
    · next h' => simp [show k - 8 - 8 < 8 by omega, show 16 + (k - 8 - 8) = k by omega]

theorem extractLsb'_append_low (x y : Nibble) : (x ++ y : Byte).extractLsb' 0 4 = y := by
  refine BitVec.eq_of_getLsbD_eq fun k hk => ?_
  rw [BitVec.getLsbD_extractLsb', BitVec.getLsbD_append]
  simp [hk]

theorem extractLsb'_append_high (x y : Nibble) : (x ++ y : Byte).extractLsb' 4 4 = x := by
  refine BitVec.eq_of_getLsbD_eq fun k hk => ?_
  rw [BitVec.getLsbD_extractLsb', BitVec.getLsbD_append]
  simp [hk]

/-- The bytes a requester builds spell their request. -/
theorem Request.ofBytes_toBytes {r : Request} {k : ReqKind} (hk : r.kind = some k) :
    (Request.ofBytes (r.toBytes k)).SameCommand r where
  kind := by
    refine Eq.trans ?_ hk.symm
    show ReqKind.ofCode ((_ ++ BitVec.ofNat 4 k.code : Byte).extractLsb' 0 4).toNat = some k
    rw [extractLsb'_append_low]
    cases k <;> rfl
  tag := rfl
  table := extractLsb'_append_low _ _
  field := extractLsb'_append_high _ _
  index := rfl
  bank _ := by
    have hbit (b : BitVec 4) : (b ++ BitVec.ofNat 4 k.code : Byte).getLsbD 4 = b.getLsbD 0 :=
      BitVec.getLsbD_append
    show (if (_ ++ BitVec.ofNat 4 k.code : Byte).getLsbD 4 = true then BankSel.shadow else .active) = r.bank
    rw [hbit]
    cases r.bank <;> rfl
  value _ := append_extract_bytes r.value

/-! ### The port after the frame is counted (R176) -/

/-- A frame received leaves a consistent port below BUS_OFF. -/
theorem PortState.Consistent.receivedWhole {x : PortState} (h : x.Consistent) (he : x.error ≠ .busOff) :
    x.receivedWhole.error ≠ .busOff :=
  (h.recounted he (n := if 127 < x.rxCount then 120 else x.rxCount - 1) (by have := h.rx; split <;> omega)).2

/-- A management command in the state of a counted frame. -/
theorem exec_counted {s : State} {q : Requester} {c : Instr} {r : Request} (hc : commandRequest c = some (q, r))
    (hr : s.resetApplied = none) (hcons : s.ports.port.u.Consistent) (honline : s.ports.port.u.error ≠ .busOff) :
    exec c (s.countReceived .portU) = .next ((s.countReceived .portU).takeRequest q r) := by
  have hcounted : (s.countReceived .portU).ports.port.u.error ≠ .busOff := hcons.receivedWhole honline
  rw [exec_commandRequest hc, State.request, State.unlessReset_none _ _ (by simpa using hr), if_neg hcounted]

theorem mgmtUse_reply (strap : BitVec 2) (q : Requester) : mgmtUse strap (replyIdent strap q) = .reply := by
  cases q <;> revert strap <;> decide

/-- Settles O52: the bytes of a frame are the fields of its command. -/
theorem requestFramesAreTheManagementCommands : Obligations.RequestFramesAreTheManagementCommands := by
  refine ⟨by decide, fun name => ?_, fun q s hr => ⟨fun hcons honline => ⟨fun c r k f hc hk hid hlen => ?_,
    fun c r k hc hk => ?_, fun f hid hlen => ?_, fun bytes hlen => ?_⟩, fun p f honline hlen hid => ?_⟩⟩
  case refine_1 =>
    rcases name with tbl | l
    · cases tbl <;> rfl
    · cases l <;> rfl
  case refine_2 =>
    intro byte hkind hbank htag htable hfield hindex hvalue
    have hsame : (Request.ofBytes f.data).SameCommand r :=
      { kind := by
          refine Eq.trans ?_ hk.symm
          refine (if_pos hlen).trans ?_
          rw [show ((f.data.getD 0 0).extractLsb' 0 4).toNat = _ from hkind]
          cases k <;> rfl
        tag := htag
        table := htable
        field := hfield
        index := hindex
        bank := fun hread => by
          have hbit := hbank (by simpa [hk] using hread)
          show (if (byte 0).getLsbD 4 = true then BankSel.shadow else .active) = r.bank
          split
          · next h => exact (hbit.1 h).symm
          · next h => cases hb : r.bank with
            | active => rfl
            | shadow => exact absurd (hbit.2 hb) h
        value := fun hwrite => by
          have hw := hvalue (by simpa [hk] using hwrite)
          exact BitVec.eq_of_toNat_eq ((toNat_append_bytes _ _ _).trans hw) }
    rw [exec_requestFrame hr honline hid hlen.le, exec_counted hc hr hcons honline, hsame.takeRequest_eq]
  case refine_3 =>
    rw [exec_requestFrame hr honline rfl (le_refl 8), exec_counted hc hr hcons honline,
      (Request.ofBytes_toBytes hk).takeRequest_eq]
  case refine_4 =>
    intro kind hbad hslot
    have hmalformed : malformedBytes f.data = true := by
      simp only [malformedBytes, Bool.or_eq_true, Bool.and_eq_true, decide_eq_true_eq]
      rcases hbad with h | h | ⟨h, h'⟩
      · exact .inl (.inl (.inl h))
      · exact .inl (.inl (.inr h))
      · exact .inl (.inr ⟨Nat.le_of_lt_succ h, h'⟩)
    have hcounted : (s.countReceived .portU).ports.slots.get (replySlot q) = .empty := by simpa using hslot
    rw [exec_requestFrame hr honline hid hlen, State.takeRequest_withReply hcounted,
      State.answer_malformed _ q hmalformed]
    rfl
  case refine_5 =>
    rw [exec_requestFrame hr honline rfl hlen]
    exact (exec_counted (c := .malformedRequest q bytes) rfl hr hcons honline).symm
  case refine_6 =>
    have hreceives : s.receives p = true := decide_eq_true honline
    show Host.Outcome.next (s.unlessReset _) = _
    rw [State.unlessReset_none _ _ hr, if_pos ⟨hreceives, hlen⟩, State.classifyFrame]
    have hstrap : (s.countReceived p).strapId = s.strapId := by simp
    rw [hstrap]
    rcases hid with hid | ⟨rfl, hid⟩
    · rw [hid, mgmtUse_reply]
    · rw [hid, mgmtUse_request]

end Sys2Proof.Machine
end

section
/-! PROOFS. The lines of a status snapshot, bit by bit (R196, R202). -/

namespace Sys2Proof.Machine

/-! ### Lines made of fields -/

theorem carries_lineOf {fs : List (Nat × Nat × Int)} (h : ∀ f ∈ fs, f.1 + f.2.1 ≤ 24) :
    Carries (lineOf (fs.map fun f => lineBits f.1 f.2.1 f.2.2)) fs := by
  induction fs with
  | nil => exact Carries.zero 24
  | cons f fs ih =>
    have hhead : Carries (lineBits f.1 f.2.1 f.2.2) [f] := carries_putBits f.2.2 (h f List.mem_cons_self)
    exact hhead.or (ih fun g hg => h g (List.mem_cons_of_mem f hg))

/-- A line written with the fields it is made of. -/
theorem carries_line {x : Value24} {fs : List (Nat × Nat × Int)}
    (hx : x = lineOf (fs.map fun f => lineBits f.1 f.2.1 f.2.2)) (h : ∀ f ∈ fs, f.1 + f.2.1 ≤ 24) : Carries x fs :=
  hx ▸ carries_lineOf h

theorem flagFields_fits {lo : Nat} {l : List Bool} {f : Nat × Nat × Int} (hf : f ∈ flagFields lo l) :
    f.1 + f.2.1 ≤ lo + l.length := by
  induction l generalizing lo with
  | nil => cases hf
  | cons b bs ih =>
    rcases List.mem_cons.1 hf with rfl | hf
    · simp
    · have := ih hf
      simp only [List.length_cons]
      omega

/-- A set among the fields is its flags one by one. -/
theorem Carries.spread {w : Nat} {x : BitVec w} {pre rest : List (Nat × Nat × Int)} {lo n : Nat} {l : List Bool}
    (h : Carries x (pre ++ (lo, n, setBits l) :: rest)) (hl : l.length ≤ n) :
    Carries x (pre ++ (flagFields lo l ++ rest)) := by
  refine h.congr (fun f hf => ?_) fun k => ?_
  · have hset := h.fits (lo, n, setBits l) (by simp)
    rcases List.mem_append.1 hf with hf | hf
    · exact h.fits f (List.mem_append_left _ hf)
    · rcases List.mem_append.1 hf with hf | hf
      · have := flagFields_fits hf
        simp only at hset
        omega
      · exact h.fits f (List.mem_append_right _ (List.mem_cons_of_mem _ hf))
  · rw [setsBit_append, setsBit_append, setsBit_append, setsBit_cons, setsBit_setBits hl]

theorem Carries.swap {w : Nat} {x : BitVec w} {fs gs : List (Nat × Nat × Int)} (h : Carries x (fs ++ gs)) :
    Carries x (gs ++ fs) :=
  h.congr (fun f hf => h.fits f (List.mem_append.2 (List.mem_append.1 hf).symm))
    fun k => by rw [setsBit_append, setsBit_append, or_comm]

theorem ForcedSet.bits_eq (f : ForcedSet) : f.bits = setBits [f.engine, f.motorDrive, f.motorRegen, f.clutchLock] := by
  simp only [ForcedSet.bits, setBits]; ring

/-! ### The lines of a stream -/

/-- The upper bits of a frame with their two flags. -/
theorem flags_eq (ready zone : Bool) :
    ((putBits 4 0 1 (bit ready) ||| putBits 4 1 1 (bit zone) : Nibble).toNat : Int) = setBits [ready, zone] := by
  cases ready <;> cases zone <;> rfl

theorem flag_eq (fault : Bool) : ((putBits 4 0 1 (bit fault) : Nibble).toNat : Int) = setBits [fault, false] := by
  cases fault <;> rfl

/-- The first line of a stream, its flags by their number in byte 6. -/
theorem streamLine_carries {m : StreamMeta} {stored effective : DataWord} {flags effFlags : Nibble} {a b c d : Bool}
    (hflags : ((flags.toNat : Nat) : Int) = setBits [a, b]) (heff : ((effFlags.toNat : Nat) : Int) = setBits [c, d]) :
    Carries ((streamLines m stored effective flags effFlags).getD 0 0)
      [(0, 2, (m.state.code : Int)), (2, 4, ((m.counter.getD 0).toNat : Int)), (6, 1, bit m.counter.isSome),
        (7, 2, (m.discard.code : Int)), (9, 1, bit m.lapse), (10, 1, bit a), (11, 1, bit b), (14, 1, bit c),
        (15, 1, bit d)] := by
  have hline : Carries ((streamLines m stored effective flags effFlags).getD 0 0)
      ([(0, 2, (m.state.code : Int)), (2, 4, ((m.counter.getD 0).toNat : Int)), (6, 1, bit m.counter.isSome),
        (7, 2, (m.discard.code : Int)), (9, 1, bit m.lapse)] ++ (10, 4, setBits [a, b]) ::
          [(14, 4, setBits [c, d])]) := by
    rw [← hflags, ← heff]
    exact carries_line rfl (by simp)
  have hspread := hline.spread (by simp)
  exact (hspread.spread (pre := [(0, 2, (m.state.code : Int)), (2, 4, ((m.counter.getD 0).toNat : Int)),
    (6, 1, bit m.counter.isSome), (7, 2, (m.discard.code : Int)), (9, 1, bit m.lapse), (10, 1, bit a), (11, 1, bit b)])
    (rest := []) (by simp))

/-- A data word over two lines. -/
theorem extract_lines (x : DataWord) {k : Nat} (hk : k < 48) :
    (if k / 24 = 0 then x.extractLsb' 0 24 else x.extractLsb' 24 24).getLsbD (k % 24) = x.getLsbD k := by
  by_cases hlow : k < 24
  · rw [if_pos (by omega), BitVec.getLsbD_extractLsb', Nat.mod_eq_of_lt hlow]
    simp [hlow]
  · rw [if_neg (by omega), BitVec.getLsbD_extractLsb', show 24 + k % 24 = k by omega]
    simp [show k % 24 < 24 by omega]

/-- The value lines of a stream, first those of the stored and then those of the effective values. -/
theorem streamLines_word {m : StreamMeta} {stored effective : DataWord} {flags effFlags : Nibble} {k : Nat}
    (hk : k < 48) :
    ((streamLines m stored effective flags effFlags).getD (1 + k / 24) 0).getLsbD (k % 24) = stored.getLsbD k ∧
      ((streamLines m stored effective flags effFlags).getD (3 + k / 24) 0).getLsbD (k % 24) = effective.getLsbD k := by
  rw [← extract_lines stored hk, ← extract_lines effective hk]
  rcases (show k / 24 = 0 ∨ k / 24 = 1 by omega) with h | h <;> rw [h] <;> exact ⟨rfl, rfl⟩

/-- The five lines of a stream where they stand in a page. -/
theorem streamLines_spelled {page : List Value24} {first : Nat} {m : StreamMeta} {stored effective : DataWord}
    {flags effFlags : Nibble} {fs gs : List (Nat × Nat × Int)} {bs cs : List Bool}
    (hpage : ∀ j, j < 5 → page.getD (first + j) 0 = (streamLines m stored effective flags effFlags).getD j 0)
    (hflags : (flags.toNat : Int) = setBits [bs.getD 0 false, bs.getD 1 false])
    (heff : (effFlags.toNat : Int) = setBits [cs.getD 0 false, cs.getD 1 false])
    (hstored : Carries stored fs) (heffective : Carries effective gs) :
    Carries (page.getD first 0)
      [(0, 2, (m.state.code : Int)), (2, 4, ((m.counter.getD 0).toNat : Int)), (6, 1, bit m.counter.isSome),
        (7, 2, (m.discard.code : Int)), (9, 1, bit m.lapse), (10, 1, bit (bs.getD 0 false)),
        (11, 1, bit (bs.getD 1 false)), (14, 1, bit (cs.getD 0 false)), (15, 1, bit (cs.getD 1 false))] ∧
      (∀ k, k < 48 → ((page.getD (first + 1 + k / 24) 0).getLsbD (k % 24) = true ↔ SetsBit fs k)) ∧
      (∀ k, k < 48 → ((page.getD (first + 3 + k / 24) 0).getLsbD (k % 24) = true ↔ SetsBit gs k)) := by
  refine ⟨?_, fun k hk => ?_, fun k hk => ?_⟩
  · rw [show first = first + 0 from rfl, hpage 0 (by decide)]
    exact streamLine_carries hflags heff
  · rw [Nat.add_assoc, hpage _ (by omega), (streamLines_word hk).1]
    exact hstored.bits k hk
  · rw [Nat.add_assoc, hpage _ (by omega), (streamLines_word hk).2]
    exact heffective.bits k hk

/-! ### The words of the streams (R199, R202) -/

theorem wordDemand_carries (v : DemandVals) : Carries (wordDemand v) [(0, 12, v.torque)] :=
  carries_putBits _ (by decide)

theorem wordBattery_carries (v : BatteryVals) :
    Carries (wordBattery v) [(0, 11, v.soc), (11, 12, v.pDis), (23, 12, v.pChg), (35, 8, v.temp + 40)] :=
  (((carries_putBits _ (by decide)).or (carries_putBits _ (by decide))).or (carries_putBits _ (by decide))).or
    (carries_putBits _ (by decide))

theorem wordInverter_carries (v : InverterVals) :
    Carries (wordInverter v) [(0, 13, v.speed), (13, 10, v.motoring), (23, 10, v.generating), (33, 8, v.temp + 40)] :=
  (((carries_putBits _ (by decide)).or (carries_putBits _ (by decide))).or (carries_putBits _ (by decide))).or
    (carries_putBits _ (by decide))

theorem wordEngine_carries (v : EngineVals) :
    Carries (wordEngine v) [(0, 13, v.speed), (13, 10, v.available), (23, 10, -v.drag), (33, 8, v.temp + 40)] :=
  (((carries_putBits _ (by decide)).or (carries_putBits _ (by decide))).or (carries_putBits _ (by decide))).or
    (carries_putBits _ (by decide))

theorem wordClutch_carries (v : ClutchVals) : Carries (wordClutch v) [(0, 2, (v.state.code : Int))] :=
  carries_putBits _ (by decide)

theorem wordBrake_carries (v : BrakeVals) : Carries (wordBrake v) [(0, 10, v.regen)] :=
  carries_putBits _ (by decide)

/-! ### The pages of indexed lines -/

theorem WatchUnit.lines_getD (w : WatchUnit) (i : Fin 16) : w.lines.getD i 0 =
    lineOf [lineBits 0 2 w.cells[i].state.code, lineBits 2 1 (bit w.cells[i].fired)] := by
  have hindices : watchIndices = List.finRange 16 := rfl
  rw [WatchUnit.lines, hindices, List.getD_append _ _ _ _ (by simp), List.getD_eq_getElem _ _ (by simp)]
  simp

theorem State.faultLines_getD (s : State) (i : Fin 12) : (sourceIndices.map s.faultLine).getD i 0 = s.faultLine i := by
  have hindices : sourceIndices = List.finRange 12 := rfl
  rw [hindices, List.getD_eq_getElem _ _ (by simp)]
  simp

/-- Settles O60: each line by its fields, the codes of R201 spelled out. -/
theorem statusLinesFollowTheLayout : Obligations.StatusLinesFollowTheLayout := by
  intro q s line holds flag modeCode bankCode walkCode reasonCode tableCode faultCode consequenceCode streamCode
    discardCode watchCode errorCode
  have hmode : ∀ m, modeCode m = (Mode.code m : Int) := fun m => by cases m <;> rfl
  have hbank : ∀ b, bankCode b = (BankName.code b : Int) := fun b => by cases b <;> rfl
  have hwalk : walkCode = (s.tables.walk.code : Int) := by
    simp only [walkCode]
    cases s.tables.walk <;> rfl
  have hreason : ∀ w, reasonCode w = (WalkReason.code w : Int) := fun w => by cases w <;> rfl
  have htable : ∀ t, tableCode t = (TableName.code (.bank t) : Int) := fun t => by cases t <;> rfl
  have hfault : ∀ x, faultCode x = (FaultState.code x : Int) := fun x => by cases x <;> rfl
  have hconsequence : ∀ x, consequenceCode x = (Consequence.code x : Int) := fun x => by cases x <;> rfl
  have hstream : ∀ x, streamCode x = (StreamState.code x : Int) := fun x => by cases x <;> rfl
  have hdiscard : ∀ x, discardCode x = (DiscardReason.code x : Int) := fun x => by cases x <;> rfl
  have hwatch : ∀ x, watchCode x = (WatchState.code x : Int) := fun x => by cases x <;> rfl
  have herror : ∀ x, errorCode x = (ErrorState.code x : Int) := fun x => by cases x <;> rfl
  have hclear (m : ClearMode) : flag (decide (m = .manual)) = (m.code : Int) := by cases m <;> rfl
  have hkind (k : CycleKind) : flag (decide (k = .fillIn)) = (k.code : Int) := by cases k <;> rfl
  have holds_of {x : Value24} {fs : List (Nat × Nat × Int)} (h : Carries x fs) : holds x fs := h.bits
  refine ⟨?_, ?_, ?_, fun i => ?_, ?_, fun page r hr => ?_, fun i => ?_, ?_, fun p => ?_⟩
  case refine_1 =>
    rw [hmode, hbank, hwalk]
    exact holds_of (carries_line rfl (by simp))
  case refine_2 =>
    have hline : Carries (line 0 1) ([] ++
        (0, 12, setBits (sourceIndices.map fun i => decide (s.faults.sources[i].state ≠ .clear))) ::
          [(12, 4, (s.watch.queue.length : Int))]) := carries_line rfl (by simp)
    have hspread : Carries (line 0 1) (flagFields 0 (sourceIndices.map fun i =>
        decide (s.faults.sources[i].state ≠ .clear)) ++ [(12, 4, (s.watch.queue.length : Int))]) :=
      hline.spread (by simp [sourceIndices])
    exact holds_of hspread.swap
  case refine_3 =>
    have hline : line 0 2 = s.summaryLine2 := rfl
    rw [hbank, hline, State.summaryLine2]
    cases s.tables.walk with
    | failed f =>
      simp only [htable, hreason]
      exact holds_of (carries_line rfl (by simp))
    | idle => exact holds_of (carries_line rfl (by simp))
    | running k pos seen => exact holds_of (carries_line rfl (by simp))
    | passed => exact holds_of (carries_line rfl (by simp))
  case refine_4 =>
    intro x e
    have hline : line 1 i = s.faultLine i := s.faultLines_getD i
    have he : s.tables.faultEntry i = e := s.tables.faultEntry_eq i
    have hset : Carries (line 1 i) ([(0, 2, (x.state.code : Int)), (2, 1, bit x.cond), (3, 1, bit x.timeout)] ++
        (4, 4, setBits [e.forced.engine, e.forced.motorDrive, e.forced.motorRegen, e.forced.clutchLock]) ::
          [(8, 2, (e.consequence.code : Int)), (10, 1, (e.clearMode.code : Int)),
            (11, 1, bit (decide (s.tables.faultMap[i] = .failing)))]) := by
      rw [hline, State.faultLine, he, ← ForcedSet.bits_eq]
      exact carries_line rfl (by simp)
    rw [hfault, hconsequence, hclear]
    exact holds_of (hset.spread (by simp))
  case refine_5 =>
    intro live word stream orElse d b v e c clutchCode
    have hlive : ∀ r, s.intake.live r = live r := fun r => by
      simp only [Intake.live, live]
      cases (s.intake.streams.get r).state <;> rfl
    have hclutch : clutchCode = (c.state.code : Int) := by
      simp only [clutchCode]
      cases c.state <;> rfl
    have spelled {first : Nat} {r : Role} {stored effective : DataWord} {flags effFlags : Nibble}
        {fs gs : List (Nat × Nat × Int)} {bs cs : List Bool}
        (hpage : ∀ j, j < 5 → s.streamPage.getD (first + j) 0 =
          (streamLines (s.intake.streams.get r) stored effective flags effFlags).getD j 0)
        (hflags : (flags.toNat : Int) = setBits [bs.getD 0 false, bs.getD 1 false])
        (heff : (effFlags.toNat : Int) = setBits [cs.getD 0 false, cs.getD 1 false])
        (hstored : Carries stored fs) (heffective : Carries effective gs) : stream first r bs cs fs gs := by
      obtain ⟨hline, hwords⟩ := streamLines_spelled hpage hflags heff hstored heffective
      refine ⟨?_, hwords⟩
      rw [hstream, hdiscard]
      exact holds_of hline
    have page (first : Nat) {l : List Value24} (h0 : s.streamPage.getD first 0 = l.getD 0 0)
        (h1 : s.streamPage.getD (first + 1) 0 = l.getD 1 0) (h2 : s.streamPage.getD (first + 2) 0 = l.getD 2 0)
        (h3 : s.streamPage.getD (first + 3) 0 = l.getD 3 0) (h4 : s.streamPage.getD (first + 4) 0 = l.getD 4 0) :
        ∀ j, j < 5 → s.streamPage.getD (first + j) 0 = l.getD j 0 := fun j hj => by
      interval_cases j
      · exact h0
      · exact h1
      · exact h2
      · exact h3
      · exact h4
    have hdemand := s.intake.effDemand_eq
    have hbattery := s.intake.effBattery_eq s.tables.wp
    have hinverter := s.intake.effInverter_eq
    have hengine := s.intake.effEngine_eq
    have heffClutch := s.intake.effClutch_eq
    have hbrake := s.intake.effBrake_eq
    rw [hlive] at hdemand hbattery hinverter hengine heffClutch hbrake
    refine ⟨?_, ?_, ?_, ?_, ?_, ?_⟩
    · refine spelled (page 0 rfl rfl rfl rfl rfl) (flags_eq _ _) ?_ (wordDemand_carries _) ?_ <;> rw [hdemand]
      · exact flags_eq _ _
      · exact wordDemand_carries _
    · refine spelled (page 5 rfl rfl rfl rfl rfl) (flag_eq _) ?_ (wordBattery_carries _) ?_ <;> rw [hbattery]
      · exact flag_eq _
      · exact wordBattery_carries _
    · refine spelled (page 10 rfl rfl rfl rfl rfl) (flag_eq _) ?_ (wordInverter_carries _) ?_ <;> rw [hinverter]
      · exact flag_eq _
      · exact wordInverter_carries _
    · refine spelled (page 15 rfl rfl rfl rfl rfl) (flags_eq _ _) ?_ (wordEngine_carries _) ?_ <;> rw [hengine]
      · exact flags_eq _ _
      · have hdrag : orElse .engine (-e.drag) 0 = -(if live .engine then s.intake.engine.drag else 0) := by
          simp only [orElse]
          cases live .engine <;> rfl
        rw [hdrag]
        exact wordEngine_carries _
    · refine spelled (page 20 rfl rfl rfl rfl rfl) (flag_eq _) ?_ ?_ ?_
      · rw [heffClutch]
        exact flag_eq _
      · rw [hclutch]
        exact wordClutch_carries _
      · have hstate : orElse .clutch clutchCode 1 =
            ((if live .clutch then s.intake.clutch.state else .slipping : ClutchState).code : Int) := by
          rw [hclutch]
          simp only [orElse]
          cases live .clutch <;> rfl
        rw [hstate, heffClutch]
        exact wordClutch_carries _
    · refine spelled (page 25 rfl rfl rfl rfl rfl) rfl rfl (wordBrake_carries _) ?_
      rw [hbrake]
      exact wordBrake_carries _
  case refine_6 =>
    have hpage : ∀ n, line page n = (r.lines s.tables.cellFault).getD n 0 := by
      simp only [List.mem_cons, Prod.mk.injEq, List.not_mem_nil, or_false] at hr
      rcases hr with ⟨rfl, rfl⟩ | ⟨rfl, rfl⟩ | ⟨rfl, rfl⟩ <;> exact fun n => rfl
    have hbinding : Carries ((r.lines s.tables.cellFault).getD 0 0) ([(0, 4, (r.mode.code : Int))] ++
        (4, 5, setBits [r.binding.engHi, r.binding.engLo, r.binding.motHi, r.binding.motLo, r.binding.engSlew]) ::
          [(9, 12, r.driverShare)]) := by
      rw [← Binding.bits_eq]
      exact carries_line rfl (by simp)
    simp only [hpage, hmode, hkind]
    refine ⟨holds_of (hbinding.spread (by simp)), holds_of (carries_line rfl (by simp)),
      holds_of (carries_line rfl (by simp)), holds_of (carries_line rfl (by simp)),
      holds_of (carries_line rfl (by simp)), holds_of (carries_line rfl (by simp)),
      holds_of (carries_line rfl (by simp)), holds_of (carries_line rfl (by simp)),
      holds_of (carries_line rfl (by simp)), ?_⟩
    rw [hbank]
    exact holds_of (carries_line rfl (by simp))
  case refine_7 =>
    have hline : line 6 i = lineOf [lineBits 0 2 s.watch.cells[i].state.code,
      lineBits 2 1 (bit s.watch.cells[i].fired)] := s.watch.lines_getD i
    rw [hwatch]
    exact holds_of (carries_line hline (by simp))
  case refine_8 =>
    have hline : Carries (line 6 16) ([] ++ [(0, 16, setBits (watchIndices.map fun i => s.watch.cells[i].fired))]) :=
      carries_putBits _ (by decide)
    have hspread : Carries (line 6 16) (flagFields 0 (watchIndices.map fun i => s.watch.cells[i].fired) ++ []) :=
      hline.spread (by simp [watchIndices])
    exact holds_of hspread
  case refine_9 =>
    intro x f n
    rw [herror]
    cases p with
    | portU => exact ⟨holds_of (carries_line rfl (by simp)), holds_of (carries_line rfl (by simp))⟩
    | portD => exact ⟨holds_of (carries_line rfl (by simp)), holds_of (carries_line rfl (by simp))⟩

end Sys2Proof.Machine
end

section
/-! PROOFS. The addressing tests of management (R184, R185), the stored fields as numbers (R186), and the reads. -/

namespace Sys2Proof.Machine

/-! ### Addressing -/

/-- The number of entries of a table (R2, R169, R143, R134). -/
def TableName.entries : TableName → Nat
  | .bank tbl => tbl.size
  | .live l => l.size

theorem TableName.ofCode_tableNibble (name : TableName) : TableName.ofCode (tableNibble name).toNat = some name := by
  rcases name with tbl | l
  · cases tbl <;> rfl
  · cases l <;> rfl

theorem TableName.lacksIndex_iff (name : TableName) (i : Nat) :
    (!TableName.hasIndex name i) = true ↔ TableName.entries name ≤ i := by
  cases name <;> simp [TableName.hasIndex, TableName.entries]

theorem TableName.lacksField_iff (name : TableName) (i field : Nat) :
    (!TableName.hasStored name i field) = true ↔ ¬(1 ≤ field ∧ field ≤ TableName.fieldCount name i) := by
  simp only [TableName.hasStored, Bool.not_eq_true', decide_eq_false_iff_not]

/-! ### Holds (R191) -/

theorem State.holds_live_iff (s : State) (q : Requester) (l : LiveTable) (i : Nat) :
    s.holds q (.live l) i = true ↔ (s.mgmt.get q).hold = some ⟨l, i⟩ := by
  unfold State.holds
  cases (s.mgmt.get q).hold <;> simp [heldNameOf]

theorem State.holdsOther_live_iff (s : State) (q : Requester) (l : LiveTable) (i : Nat) :
    s.holdsOther q (.live l) i = true ↔ (s.mgmt.get q).hold ≠ none ∧ (s.mgmt.get q).hold ≠ some ⟨l, i⟩ := by
  unfold State.holdsOther
  cases (s.mgmt.get q).hold <;> simp [heldNameOf]

theorem State.holds_bank (s : State) (q : Requester) (tbl : BankTable) (i : Nat) :
    s.holds q (.bank tbl) i = false ∧ s.holdsOther q (.bank tbl) i = false := by
  unfold State.holds State.holdsOther
  cases (s.mgmt.get q).hold <;> exact ⟨rfl, rfl⟩

/-! ### Stored fields as numbers (R186, R201) -/

theorem Vector.getD_getElem?_fin {α : Type} {n : Nat} (v : Vector α n) (j : Fin n) (d : α) :
    v[j.val]?.getD d = v[j] := by
  simp

/-- The requests of a READ and of a READ_HOLD. -/
def readRequest (k : ReqKind) (tag : Byte) (bank : BankSel) (name : TableName) (index : Byte) (field : Nibble) :
    Request := ⟨some k, tag, bank, tableNibble name, field, index, 0⟩

/-- A READ is answered by its tests. -/
theorem exec_read {q : Requester} {s : State} (h : s.Takes q) (tag : Byte) (bank : BankSel) (name : TableName)
    (index : Byte) (field : Nibble) {st : Status} {v : Value24}
    (ha : answerWith s (firstStatus (s.readTests (readRequest .read tag bank name index field) name))
      (s.readValue (readRequest .read tag bank name index field) name) s = ⟨st, v, s⟩) :
    exec (.read q tag bank name index field) s = .next (s.withReply q tag (tableNibble name) field index v st) := by
  refine exec_answered (c := .read q tag bank name index field) (a := ⟨st, v, s⟩) rfl h ?_
  have hname : (readRequest .read tag bank name index field).tableName = some name := TableName.ofCode_tableNibble name
  show s.answerRead (readRequest .read tag bank name index field) = _
  rw [State.answerRead, hname]
  exact ha

/-- A READ_HOLD of a live table is answered by its tests. -/
theorem exec_readHold {q : Requester} {s : State} (h : s.Takes q) (tag : Byte) (l : LiveTable) (index : Byte)
    (field : Nibble) {st : Status} {v : Value24} {t : State}
    (ha : answerWith s (firstStatus (s.readHoldTests q (readRequest .readHold tag .active (.live l) index field) l))
      (s.readValue (readRequest .readHold tag .active (.live l) index field) (.live l))
      (s.holdEntry q ⟨l, index.toNat⟩) = ⟨st, v, t⟩) :
    exec (.readHold q tag (.live l) index field) s =
      .next (t.withReply q tag (tableNibble (.live l)) field index v st) := by
  refine exec_answered (c := .readHold q tag (.live l) index field) (a := ⟨st, v, t⟩) rfl h ?_
  have hname : (readRequest .readHold tag .active (.live l) index field).tableName = some (.live l) :=
    TableName.ofCode_tableNibble (.live l)
  show s.answerReadHold q (readRequest .readHold tag .active (.live l) index field) = _
  rw [State.answerReadHold, hname]
  exact ha

theorem answerWith_ok (s : State) {st : Status} (v : Value24) (t : State) (h : st = .ok) :
    answerWith s st v t = ⟨.ok, v, t⟩ := by rw [answerWith, if_pos h]

theorem answerWith_refused (s : State) {st st' : Status} (v : Value24) (t : State) (h : st = st') (hst : st' ≠ .ok) :
    answerWith s st v t = ⟨st', 0, s⟩ := by subst h; rw [answerWith, if_neg hst]

/-- Settles O53: the numbers of each table, and the tests of a READ and of a READ_HOLD in their order. -/
theorem readsAnswerTheStoredField : Obligations.ReadsAnswerTheStoredField := by
  refine ⟨fun t b i => ?_, fun q tag bank table l index field s h => ?_⟩
  case refine_1 =>
    intro numbers code portCode actionCode defaultCode roleCode quantityCode comparisonCode watchActionCode
      consequenceCode clearCode
    refine ⟨fun tbl => ?_, fun j hj => ?_, ?_, fun j hj => ?_, fun j hj => ?_⟩
    · cases b <;> rfl
    · subst hj
      have hne : j.val ≠ 47 := by omega
      have hentry : t.entryNumbers b (.live .forward) j.val = Checked.numbers t.forward[j] FwdEntry.numbers := by
        rw [← Vector.getD_getElem?_fin t.forward j .failing]
        exact if_neg hne
      rw [hentry]
      cases t.forward[j] with
      | failing => rfl
      | passing e =>
        refine congrArg some ?_
        simp only [FwdEntry.numbers, List.cons.injEq, true_and, and_true]
        exact ⟨rfl, by cases e.port <;> rfl, by cases e.action <;> rfl, by
          rcases e.role with _ | r
          · rfl
          · cases r <;> rfl⟩
    · show Checked.numbers t.portDefaults PortDefaults.numbers = _
      cases t.portDefaults with
      | failing => rfl
      | passing e =>
        refine congrArg some ?_
        simp only [PortDefaults.numbers, List.cons.injEq, and_true]
        exact ⟨by cases e.u <;> rfl, by cases e.d <;> rfl⟩
    · subst hj
      have hentry : t.entryNumbers b (.live .watch) j.val = Checked.numbers t.watch[j] WatchEntry.numbers :=
        congrArg (Checked.numbers · WatchEntry.numbers) (Vector.getD_getElem?_fin t.watch j .failing)
      rw [hentry]
      cases t.watch[j] with
      | failing => rfl
      | passing e =>
        refine congrArg some ?_
        simp only [WatchEntry.numbers, List.cons.injEq, true_and, and_true]
        exact ⟨rfl, by cases e.quantity <;> rfl, by cases e.comparison <;> rfl,
          by cases e.action <;> rfl⟩
    · subst hj
      have hentry : t.entryNumbers b (.live .faultMap) j.val = Checked.numbers t.faultMap[j] FaultEntry.numbers :=
        congrArg (Checked.numbers · FaultEntry.numbers) (Vector.getD_getElem?_fin t.faultMap j .failing)
      rw [hentry]
      cases t.faultMap[j] with
      | failing => rfl
      | passing e =>
        refine congrArg some ?_
        simp only [FaultEntry.numbers, List.cons.injEq, and_true]
        exact ⟨rfl, by cases e.consequence <;> rfl, by cases e.clearMode <;> rfl⟩
  case refine_2 =>
    intro replied held i size stored
    have hsize : ∀ name, size name = TableName.entries name := fun name => by
      rcases name with tbl | l
      · cases tbl <;> rfl
      · cases l <;> rfl
    have hstored : ∀ name, stored name ↔ 1 ≤ field.toNat ∧ field.toNat ≤ TableName.fieldCount name i := fun name => by
      rcases name with tbl | l
      · cases tbl <;> exact Iff.rfl
      · cases l <;> exact Iff.rfl
    have hindex : ∀ name, (!TableName.hasIndex name i) = true ↔ size name ≤ i := fun name => by
      rw [hsize]; exact TableName.lacksIndex_iff name i
    have hfield : ∀ name, (!TableName.hasStored name i field.toNat) = true ↔ ¬stored name := fun name => by
      rw [hstored]; exact TableName.lacksField_iff name i field.toNat
    have heldBank : ∀ tbl : BankTable, exec (.readHold q tag (.bank tbl) index field) s =
        replied s (.bank tbl) 0 .badRequest := fun tbl =>
      exec_answered (c := .readHold q tag (.bank tbl) index field) rfl h
        (State.answer_heldBank (TableName.ofCode_tableNibble (.bank tbl)) rfl)
    refine ⟨fun hi => ?_, fun hi hf => ?_, fun hi hf => ⟨fun hnone => ?_, fun ns hns => ?_⟩, heldBank, fun hi => ?_,
      fun hi hf => ?_, fun hi hf => ⟨fun hne hother => ?_, fun hown hheld => ?_, fun hown hheld =>
        ⟨fun hnone => ?_, fun ns hns => ?_⟩⟩⟩
    case refine_1 =>
      refine exec_read h tag bank table index field (answerWith_refused s _ _ ?_ nofun)
      exact firstStatus_fails ((hindex _).2 hi)
    case refine_2 =>
      refine exec_read h tag bank table index field (answerWith_refused s _ _ ?_ nofun)
      exact (firstStatus_passes (mt (hindex _).1 (Nat.not_le.2 hi))).trans (firstStatus_fails ((hfield _).2 hf))
    case refine_3 =>
      refine exec_read h tag bank table index field (answerWith_refused s _ _ ?_ nofun)
      refine (firstStatus_passes (mt (hindex _).1 (Nat.not_le.2 hi))).trans
        ((firstStatus_passes (mt (hfield _).1 (not_not_intro hf))).trans ?_)
      exact firstStatus_fails (Option.isNone_iff_eq_none.2 hnone)
    case refine_4 =>
      have hvalue : s.readValue (readRequest .read tag bank table index field) table =
          BitVec.ofInt 24 (ns.getD (field.toNat - 1) 0) :=
        congrArg (fun o : Option (List Int) => replyValue (fieldOf (o.getD []) field.toNat)) hns
      refine exec_read h tag bank table index field (hvalue ▸ answerWith_ok s _ _ ?_)
      refine (firstStatus_passes (mt (hindex _).1 (Nat.not_le.2 hi))).trans
        ((firstStatus_passes (mt (hfield _).1 (not_not_intro hf))).trans (firstStatus_passes ?_))
      exact mt Option.isNone_iff_eq_none.1 (hns ▸ nofun)
    case refine_5 =>
      refine exec_readHold h tag l index field (answerWith_refused s _ _ ?_ nofun)
      exact firstStatus_fails ((hindex _).2 hi)
    case refine_6 =>
      refine exec_readHold h tag l index field (answerWith_refused s _ _ ?_ nofun)
      exact (firstStatus_passes (mt (hindex _).1 (Nat.not_le.2 hi))).trans (firstStatus_fails ((hfield _).2 hf))
    case refine_7 =>
      refine exec_readHold h tag l index field (answerWith_refused s _ _ ?_ nofun)
      refine (firstStatus_passes (mt (hindex _).1 (Nat.not_le.2 hi))).trans
        ((firstStatus_passes (mt (hfield _).1 (not_not_intro hf))).trans ?_)
      exact firstStatus_fails ((s.holdsOther_live_iff q l i).2 ⟨hne, hother⟩)
    case refine_8 =>
      refine exec_readHold h tag l index field (answerWith_refused s _ _ ?_ nofun)
      refine (firstStatus_passes (mt (hindex _).1 (Nat.not_le.2 hi))).trans
        ((firstStatus_passes (mt (hfield _).1 (not_not_intro hf))).trans ?_)
      refine (firstStatus_passes (mt (s.holdsOther_live_iff q l i).1 fun hc => ?_)).trans
        (firstStatus_fails ((s.holds_live_iff q.other l i).2 hheld))
      exact hown.elim hc.1 hc.2
    case refine_9 =>
      refine exec_readHold h tag l index field (answerWith_refused s _ _ ?_ nofun)
      refine (firstStatus_passes (mt (hindex _).1 (Nat.not_le.2 hi))).trans
        ((firstStatus_passes (mt (hfield _).1 (not_not_intro hf))).trans ?_)
      refine (firstStatus_passes (mt (s.holdsOther_live_iff q l i).1 fun hc => ?_)).trans
        ((firstStatus_passes (mt (s.holds_live_iff q.other l i).1 hheld)).trans ?_)
      · exact hown.elim hc.1 hc.2
      · exact firstStatus_fails (Option.isNone_iff_eq_none.2 hnone)
    case refine_10 =>
      have hvalue : s.readValue (readRequest .readHold tag .active (.live l) index field) (.live l) =
          BitVec.ofInt 24 (ns.getD (field.toNat - 1) 0) :=
        congrArg (fun o : Option (List Int) => replyValue (fieldOf (o.getD []) field.toNat)) hns
      refine exec_readHold h tag l index field (hvalue ▸ answerWith_ok s _ _ ?_)
      refine (firstStatus_passes (mt (hindex _).1 (Nat.not_le.2 hi))).trans
        ((firstStatus_passes (mt (hfield _).1 (not_not_intro hf))).trans ?_)
      refine (firstStatus_passes (mt (s.holdsOther_live_iff q l i).1 fun hc => ?_)).trans
        ((firstStatus_passes (mt (s.holds_live_iff q.other l i).1 hheld)).trans (firstStatus_passes ?_))
      · exact hown.elim hc.1 hc.2
      · exact mt Option.isNone_iff_eq_none.1 (hns ▸ nofun)

end Sys2Proof.Machine
end

section
/-! PROOFS. The tests of a WRITE and of an entry reset, in the order of R184 (R185, R187 to R192). -/

namespace Sys2Proof.Machine

/-! ### The request of a WRITE -/

/-- The request of a WRITE; an entry reset is one of field 0. -/
def writeRequest (tag : Byte) (bank : BankSel) (name : TableName) (index : Byte) (field : Nibble) (value : Value24) :
    Request := ⟨some .write, tag, bank, tableNibble name, field, index, value⟩

/-- The status of the tests of a WRITE. -/
def State.writeStatus (s : State) (q : Requester) (bank : BankSel) (name : TableName) (index : Byte) (field : Nibble)
    (value : Value24) : Status := firstStatus (s.writeTests q (writeRequest 0 bank name index field value) name)

section
variable {q : Requester} {tag : Byte} {bank : BankSel} {name : TableName} {index : Byte} {field : Nibble}
  {value : Value24} {c : Instr} {s : State}

theorem commandRequest_write (hc : c = .write q tag bank name index field value ∨
    (field = 0 ∧ c = .entryReset q tag bank name index value)) :
    commandRequest c = some (q, writeRequest tag bank name index field value) := by
  rcases hc with rfl | ⟨rfl, rfl⟩
  · rfl
  · rfl

theorem State.answer_write (s : State) (q : Requester) (tag : Byte) (bank : BankSel) (name : TableName) (index : Byte)
    (field : Nibble) (value : Value24) : s.answer q (writeRequest tag bank name index field value) =
      answerWith s (s.writeStatus q bank name index field value)
        (writeValue (writeRequest tag bank name index field value) name)
        (s.writeApplied q (writeRequest tag bank name index field value) name) := by
  have hname : (writeRequest tag bank name index field value).tableName = some name :=
    TableName.ofCode_tableNibble name
  show s.answerWrite q (writeRequest tag bank name index field value) = _
  rw [State.answerWrite, hname]
  rfl

/-- A WRITE that a test fails. -/
theorem exec_write_refused (h : s.Takes q) (hc : c = .write q tag bank name index field value ∨
    (field = 0 ∧ c = .entryReset q tag bank name index value)) {st : Status}
    (hst : s.writeStatus q bank name index field value = st) (hne : st ≠ .ok) :
    exec c s = .next (s.withReply q tag (tableNibble name) field index 0 st) :=
  exec_answered (commandRequest_write hc) h ((s.answer_write q tag bank name index field value).trans
    (answerWith_refused s _ _ hst hne))

/-- A WRITE that no test fails. -/
theorem exec_write_applied (h : s.Takes q) (hc : c = .write q tag bank name index field value ∨
    (field = 0 ∧ c = .entryReset q tag bank name index value))
    (hst : s.writeStatus q bank name index field value = .ok) :
    exec c s = .next ((s.writeApplied q (writeRequest tag bank name index field value) name).withReply q tag
      (tableNibble name) field index (writeValue (writeRequest tag bank name index field value) name) .ok) :=
  exec_answered (commandRequest_write hc) h ((s.answer_write q tag bank name index field value).trans
    (answerWith_ok s _ _ hst))

end

/-! ### The tests -/

theorem TableName.isBank_iff (name : TableName) : TableName.isBank name = true ↔ ∃ tbl, name = .bank tbl := by
  cases name <;> simp [TableName.isBank]

theorem State.holdsOther_iff (s : State) (q : Requester) (name : TableName) (i : Nat) :
    s.holdsOther q name i = true ↔
      (¬∃ tbl, name = .bank tbl) ∧ (s.mgmt.get q).hold ≠ none ∧ (s.mgmt.get q).hold ≠ heldNameOf name i := by
  cases name with
  | bank tbl => simp [(s.holds_bank q tbl i).2]
  | live l => simpa [heldNameOf] using s.holdsOther_live_iff q l i

theorem State.holds_iff (s : State) (q : Requester) (name : TableName) (i : Nat) :
    s.holds q name i = true ↔ (¬∃ tbl, name = .bank tbl) ∧ (s.mgmt.get q).hold = heldNameOf name i := by
  cases name with
  | bank tbl => simp [(s.holds_bank q tbl i).1]
  | live l => simpa [heldNameOf] using s.holds_live_iff q l i

theorem Checked.numbers_eq_none_iff {α : Type} (e : Checked α) (f : α → List Int) :
    e.numbers f = none ↔ e = .failing := by
  cases e <;> simp [Checked.numbers]

/-- An entry that lies in its live table fails its check. -/
theorem Vector.getD_eq_failing_iff {α : Type} {n : Nat} {v : Vector (Checked α) n} {i : Nat} (h : i < n) :
    v[i]?.getD .failing = .failing ↔ v[i]? = some .failing := by
  simp [h]

/-- The entry fails its check: what a bank, the lookup table with its defaults record, and the other live tables hold
at an index that exists. -/
def TableStore.FailsAt (t : TableStore) (name : TableName) (i : Nat) : Prop :=
  match name with
  | .bank tbl => (t.bank t.shadow).entryAt (tbl.base + i) = .failing
  | .live .forward => if i = 47 then t.portDefaults = .failing else t.forward[i]? = some .failing
  | .live .watch => t.watch[i]? = some .failing
  | .live .faultMap => t.faultMap[i]? = some .failing

theorem TableStore.entryNumbers_eq_none_iff (t : TableStore) {name : TableName} {i : Nat}
    (h : i < TableName.entries name) : t.entryNumbers .shadow name i = none ↔ t.FailsAt name i := by
  cases name with
  | bank tbl => exact Checked.numbers_eq_none_iff _ _
  | live l => cases l with
    | forward =>
      have hi : i < 48 := h
      simp only [TableStore.entryNumbers, TableStore.liveNumbers, TableStore.FailsAt]
      by_cases h47 : i = 47
      · rw [if_pos h47, if_pos h47]
        exact Checked.numbers_eq_none_iff _ _
      · rw [if_neg h47, if_neg h47]
        exact (Checked.numbers_eq_none_iff _ _).trans (Vector.getD_eq_failing_iff (by omega))
    | watch => exact (Checked.numbers_eq_none_iff _ _).trans (Vector.getD_eq_failing_iff h)
    | faultMap => exact (Checked.numbers_eq_none_iff _ _).trans (Vector.getD_eq_failing_iff h)

theorem State.inStandbyOrSafe_iff (s : State) :
    s.inStandbyOrSafe = true ↔ s.regime.mode = .standby ∨ s.regime.mode = .safe := decide_eq_true_iff

theorem State.wrongRegimeFor_iff_parked (s : State) (q : Requester) : s.wrongRegimeFor q = true ↔
    q = .service ∧ ¬(s.regime.mode = .standby ∨ s.regime.mode = .safe) := by
  rw [s.wrongRegimeFor_iff q, not_or]

/-- The role of a lookup entry counts as set when it is, or when the entry fails its check (R190). -/
theorem TableStore.roleSet_iff (t : TableStore) {i : Nat} (h : i < 48) : t.roleSet i = true ↔
    i < 47 ∧ ∀ e, t.forward[i]? = some (.passing e) → e.role ≠ none := by
  unfold TableStore.roleSet
  by_cases h47 : i = 47
  · simp [h47]
  · have hi : i < 47 := by omega
    have hget : t.forward[i]? = some t.forward[i] := Vector.getElem?_eq_getElem hi
    rw [if_neg h47, hget]
    cases t.forward[i] with
    | failing => simp [hi]
    | passing e => simp [hi, Option.isSome_iff_ne_none]

/-- The limits of R190 on a WRITE of a forwarding entry. -/
theorem State.forwardForbidden_iff (s : State) (q : Requester) {i : Nat} {field : Nibble} (hi : i < 48)
    (hfield : field.toNat ≤ if i = 47 then 2 else 5) :
    s.writeForbidden q (.live .forward) i field.toNat = true ↔
      if i < 47 ∧ field = 5 then s.regime.mode ≠ .standby
      else (s.tables.roleSet i = true ∧ s.regime.mode ≠ .standby) ∨
        (¬ s.tables.roleSet i = true ∧ q = .service ∧ ¬(s.regime.mode = .standby ∨ s.regime.mode = .safe)) := by
  have hfive : field.toNat = 5 ↔ field = 5 := ⟨fun h => BitVec.eq_of_toNat_eq h, fun h => h ▸ rfl⟩
  have hrange : field = 5 → i < 47 := fun h => by
    by_contra hge
    rw [if_pos (by omega), hfive.2 h] at hfield
    omega
  simp only [State.writeForbidden, hfive]
  by_cases h5 : field = 5
  · rw [if_pos (by simp [h5]), if_pos ⟨hrange h5, h5⟩, decide_eq_true_iff]
  · rw [if_neg (c := i < 47 ∧ field = 5) fun h => h5 h.2]
    by_cases hrole : s.tables.roleSet i = true
    · rw [if_pos (by simp [hrole]), decide_eq_true_iff]
      exact ⟨fun h => .inl ⟨hrole, h⟩, fun h => h.elim And.right fun h => absurd hrole h.1⟩
    · rw [if_neg (by simpa [hrole] using h5), s.wrongRegimeFor_iff_parked]
      exact ⟨fun h => .inr ⟨hrole, h⟩, fun h => h.elim (fun h => absurd h.1 hrole) And.right⟩

/-- Settles O54: the tests of R184 one after the other. -/
theorem writesAreRefusedInOrder : Obligations.WritesAreRefusedInOrder := by
  intro q tag bank name index field value c s h hc i refused size fields inBank parked roleSet forbidden busy held
    failing
  have hsize : size = TableName.entries name := by
    rcases name with tbl | l
    · cases tbl <;> rfl
    · cases l <;> rfl
  have hfields : fields = TableName.fieldCount name i := by
    rcases name with tbl | l
    · cases tbl <;> rfl
    · cases l <;> rfl
  have hheld : held = heldNameOf name i := by cases name <;> rfl
  have hfailing : failing ↔ s.tables.FailsAt name i := by
    rcases name with tbl | l
    · exact Iff.rfl
    · cases l <;> exact Iff.rfl
  have hforbidden : i < size → field.toNat ≤ fields → (s.writeForbidden q name i field.toNat = true ↔ forbidden) := by
    intro hi hf
    rcases name with tbl | l
    · exact s.wrongRegimeFor_iff_parked q
    · cases l with
      | forward =>
        have hrole := s.tables.roleSet_iff (i := i) hi
        refine (s.forwardForbidden_iff q hi hf).trans ?_
        rw [hrole]
      | watch => exact s.wrongRegimeFor_iff_parked q
      | faultMap =>
        show (!s.inStandbyOrSafe) = true ↔ ¬parked
        rw [Bool.not_eq_true', ← Bool.not_eq_true, s.inStandbyOrSafe_iff]
  have refuse {st : Status} (hst : s.writeStatus q bank name index field value = st) (hne : st ≠ .ok) : refused st :=
    exec_write_refused h hc hst hne
  clear_value size fields held
  subst hsize hfields hheld
  have hindex := TableName.lacksIndex_iff name i
  let tests := s.writeTests q (writeRequest 0 bank name index field value) name
  have hzero : field.toNat ≠ 0 ↔ field ≠ 0 := not_congr ⟨fun h => BitVec.eq_of_toNat_eq h, fun h => h ▸ rfl⟩
  have hlacks : (decide (field.toNat ≠ 0) && !TableName.hasStored name i field.toNat) = true ↔
      field ≠ 0 ∧ TableName.fieldCount name i < field.toNat := by
    rw [Bool.and_eq_true, decide_eq_true_iff, TableName.lacksField_iff, ← hzero]
    omega
  have hactive : (TableName.isBank name && decide (bank = .active)) = true ↔ inBank ∧ bank = .active := by
    rw [Bool.and_eq_true, decide_eq_true_iff, TableName.isBank_iff]
  have hbusy : (TableName.isBank name && s.bankBusy) = true ↔ busy := by
    rw [Bool.and_eq_true, TableName.isBank_iff, s.bankBusy_iff, or_assoc]
  have hpending : s.holdsOther q name i = true ↔ ¬inBank ∧ _ := s.holdsOther_iff q name i
  have hother : s.holds q.other name i = true ↔ ¬inBank ∧ _ := s.holds_iff q.other name i
  refine ⟨fun hi => refuse (firstStatus_fails (hindex.2 hi)) nofun, fun hi hf hmany => ?_, fun hi hfew => ?_⟩
  case refine_1 =>
    exact refuse ((firstStatus_passes (mt hindex.1 (Nat.not_le.2 hi))).trans (firstStatus_fails (hlacks.2 ⟨hf, hmany⟩)))
      nofun
  have hcheck : (decide (field.toNat ≠ 0) && (s.tables.entryNumbers .shadow name i).isNone) = true ↔
      field ≠ 0 ∧ failing := by
    rw [Bool.and_eq_true, decide_eq_true_iff, hzero, Option.isNone_iff_eq_none, hfailing,
      s.tables.entryNumbers_eq_none_iff hi]
  have past2 : s.writeStatus q bank name index field value = firstStatus (tests.drop 2) :=
    (firstStatus_passes (st := .badIndex) (mt hindex.1 (Nat.not_le.2 hi))).trans
      (firstStatus_passes (st := .badField) (mt hlacks.1 fun hc => Nat.not_le.2 hc.2 hfew))
  refine ⟨fun hin hact => refuse (past2.trans (firstStatus_fails (hactive.2 ⟨hin, hact⟩))) nofun, fun hshadow => ?_⟩
  have past3 : s.writeStatus q bank name index field value = firstStatus (tests.drop 3) :=
    past2.trans (firstStatus_passes (st := .wrongBank) (mt hactive.1 fun hc => nomatch (hshadow hc.1).symm.trans hc.2))
  refine ⟨fun hf => refuse (past3.trans (firstStatus_fails ((hforbidden hi hfew).2 hf))) nofun, fun hfree hb => ?_,
    fun hfree hidle => ?_⟩
  case refine_1 =>
    exact refuse (past3.trans ((firstStatus_passes (mt (hforbidden hi hfew).1 hfree)).trans
      (firstStatus_fails (hbusy.2 hb)))) nofun
  have past5 : s.writeStatus q bank name index field value = firstStatus (tests.drop 5) :=
    past3.trans ((firstStatus_passes (st := .wrongRegime) (mt (hforbidden hi hfew).1 hfree)).trans
      (firstStatus_passes (st := .busy) (mt hbusy.1 hidle)))
  refine ⟨fun hlive hne hapart => refuse (past5.trans (firstStatus_fails (hpending.2 ⟨hlive, hne, hapart⟩))) nofun,
    fun hown => ?_⟩
  have past6 : s.writeStatus q bank name index field value = firstStatus (tests.drop 6) :=
    past5.trans (firstStatus_passes (st := .holdPending) (mt hpending.1 fun hc =>
      hown.elim hc.1 fun h => h.elim hc.2.1 hc.2.2))
  refine ⟨fun hlive hh => refuse (past6.trans (firstStatus_fails (hother.2 ⟨hlive, hh⟩))) nofun,
    fun hfree hf hfails => ?_⟩
  have past7 : s.writeStatus q bank name index field value = firstStatus (tests.drop 7) :=
    past6.trans (firstStatus_passes (st := .held) (mt hother.1 fun hc => hfree.elim hc.1 fun h => h hc.2))
  exact refuse (past7.trans (firstStatus_fails (hcheck.2 ⟨hf, hfails⟩))) nofun

end Sys2Proof.Machine
end

section
/-! PROOFS. Applied writes of a bank table (R8, R10, R187, R188). -/

namespace Sys2Proof.Machine

/-! ### A WRITE that passes the tests before its value -/

/-- The tests of a WRITE before that of its value: all pass. -/
structure State.AdmitsWrite (s : State) (q : Requester) (bank : BankSel) (name : TableName) (i field : Nat) : Prop where
  hasIndex : i < TableName.entries name
  hasField : field ≤ TableName.fieldCount name i
  shadow : (∃ tbl, name = .bank tbl) → bank = .shadow
  regime : ¬ s.writeForbidden q name i field = true
  idle : (∃ tbl, name = .bank tbl) → ¬ s.bankBusy = true
  own : ¬ s.holdsOther q name i = true
  other : ¬ s.holds q.other name i = true
  check : field ≠ 0 → ¬ s.tables.FailsAt name i

theorem State.AdmitsWrite.status {s : State} {q : Requester} {bank : BankSel} {name : TableName} {index : Byte}
    {field : Nibble} (h : s.AdmitsWrite q bank name index.toNat field.toNat) (value : Value24) :
    s.writeStatus q bank name index field value = if field.toNat ≠ 0 ∧ s.writeField name index.toNat field.toNat
      (writtenValue name index.toNat field.toNat value) = none then .badValue else .ok := by
  have hindex := mt (TableName.lacksIndex_iff name index.toNat).1 (Nat.not_le.2 h.hasIndex)
  have hfield : ¬(decide (field.toNat ≠ 0) && !TableName.hasStored name index.toNat field.toNat) = true := by
    rw [Bool.and_eq_true, decide_eq_true_iff, TableName.lacksField_iff]
    have := h.hasField
    omega
  have hbank : ¬(TableName.isBank name && decide (bank = .active)) = true := by
    rw [Bool.and_eq_true, decide_eq_true_iff, TableName.isBank_iff]
    exact fun hc => nomatch (h.shadow hc.1).symm.trans hc.2
  have hbusy : ¬(TableName.isBank name && s.bankBusy) = true := by
    rw [Bool.and_eq_true, TableName.isBank_iff]
    exact fun hc => h.idle hc.1 hc.2
  have hcheck : ¬(decide (field.toNat ≠ 0) && (s.tables.entryNumbers .shadow name index.toNat).isNone) = true := by
    rw [Bool.and_eq_true, decide_eq_true_iff, Option.isNone_iff_eq_none, s.tables.entryNumbers_eq_none_iff h.hasIndex]
    exact fun hc => h.check hc.1 hc.2
  have hpassed : s.writeStatus q bank name index field value = firstStatus [(.badValue, decide (field.toNat ≠ 0) &&
      (s.writeField name index.toNat field.toNat (writtenValue name index.toNat field.toNat value)).isNone)] :=
    (firstStatus_passes hindex).trans ((firstStatus_passes hfield).trans ((firstStatus_passes hbank).trans
      ((firstStatus_passes h.regime).trans ((firstStatus_passes hbusy).trans ((firstStatus_passes h.own).trans
        ((firstStatus_passes h.other).trans (firstStatus_passes hcheck)))))))
  rw [hpassed, firstStatus, firstStatus]
  refine if_congr ?_ rfl rfl
  rw [Bool.and_eq_true, decide_eq_true_iff, Option.isNone_iff_eq_none]

/-- The value a WRITE answers is the value it carries (R183). -/
theorem replyValue_writtenValue (name : TableName) (i field : Nat) (v : Value24) :
    replyValue (writtenValue name i field v) = v := by
  unfold replyValue writtenValue
  split
  · exact BitVec.ofInt_toInt
  · rw [BitVec.ofInt_natCast, BitVec.ofNat_toNat, BitVec.setWidth_eq]

section
variable {s : State} {q : Requester} {bank : BankSel} {name : TableName} {index : Byte} {field : Nibble}
  {value : Value24}

/-- A WRITE whose value does not fit is refused. -/
theorem exec_write_badValue (hs : s.Takes q) (tag : Byte) (hfield : field ≠ 0)
    (h : s.AdmitsWrite q bank name index.toNat field.toNat)
    (hw : s.writeField name index.toNat field.toNat (writtenValue name index.toNat field.toNat value) = none) :
    exec (.write q tag bank name index field value) s =
      .next (s.withReply q tag (tableNibble name) field index 0 .badValue) := by
  refine exec_write_refused hs (.inl rfl) ((h.status value).trans (if_pos ⟨?_, hw⟩)) nofun
  exact fun hc => hfield (BitVec.eq_of_toNat_eq hc)

/-- A WRITE whose value fits is applied, and the window of a held entry restarts (R187, R192). -/
theorem exec_write_written (hs : s.Takes q) (tag : Byte) (hfield : field ≠ 0)
    (h : s.AdmitsWrite q bank name index.toNat field.toNat) {t : State}
    (hw : s.writeField name index.toNat field.toNat (writtenValue name index.toNat field.toNat value) = some t) :
    exec (.write q tag bank name index field value) s =
      .next ((t.renewIfHeld q name index.toNat).withReply q tag (tableNibble name) field index value .ok) := by
  have happlied : s.writeApplied q (writeRequest tag bank name index field value) name =
      t.renewIfHeld q name index.toNat := by
    unfold State.writeApplied
    rw [if_neg (show ¬(writeRequest tag bank name index field value).field = 0 from hfield)]
    exact congrArg (fun o : Option State => (o.getD s).renewIfHeld q name index.toNat) hw
  have hvalue : writeValue (writeRequest tag bank name index field value) name = value :=
    (if_neg hfield).trans (replyValue_writtenValue name index.toNat field.toNat value)
  have hok : s.writeStatus q bank name index field value = .ok :=
    (h.status value).trans (if_neg fun hc => Option.some_ne_none t (hw.symm.trans hc.2))
  rw [exec_write_applied hs (.inl rfl) hok, happlied, hvalue]

/-- An entry reset is applied whatever the entry and the value. -/
theorem exec_entryReset_applied (hs : s.Takes q) (tag : Byte) (value : Value24)
    (h : s.AdmitsWrite q bank name index.toNat 0) :
    exec (.entryReset q tag bank name index value) s =
      .next (((s.resetEntry name index.toNat).renewIfHeld q name index.toNat).withReply q tag (tableNibble name) 0 index
        0 .ok) :=
  exec_write_applied (field := 0) hs (.inr ⟨rfl, rfl⟩) ((h.status (field := 0) value).trans (if_neg fun hc => hc.1 rfl))

end

/-! ### Bank tables -/

/-- What putting an entry into the shadow changes: that entry, and the verified flag of the shadow. -/
theorem TableStore.putBank_shadow (t : TableStore) (tbl : BankTable) (i : Nat) (e : BankFields) :
    let u := t.putBank t.shadow tbl i e
    u = { t with bankA := u.bankA, bankB := u.bankB, verifiedA := u.verifiedA, verifiedB := u.verifiedB } ∧
      u.bank t.selector = t.bank t.selector ∧ u.verified t.selector = t.verified t.selector ∧
      u.verified t.shadow = false ∧
      (∀ p, p < 559 → (u.bank t.shadow).entryAt p =
        if p = tbl.base + i then .passing e else (t.bank t.shadow).entryAt p) := by
  intro u
  have hactive : u.activeSide = t.activeSide := t.activeSide_putBank tbl i e
  simp only [TableStore.activeSide, Prod.mk.injEq] at hactive
  obtain ⟨hbank, hselector, -, hverified⟩ := hactive
  rw [hselector] at hbank hverified
  have hframe : u = { t with
      bankA := u.bankA, bankB := u.bankB, verifiedA := u.verifiedA, verifiedB := u.verifiedB } := by
    simp only [u, TableStore.putBank, TableStore.writeBank]
    cases t.shadow <;> rfl
  refine ⟨hframe, hbank, hverified, ?_, fun p hp => ?_⟩
  · simp only [u, TableStore.putBank, TableStore.verified_setVerified, if_true]
  · simp only [u, TableStore.putBank, TableStore.bank_setVerified, TableStore.entryAt_writeBank _ _ _ _ _ _ hp,
      true_and]

theorem State.renewIfHeld_bank (s : State) (q : Requester) (tbl : BankTable) (i : Nat) :
    s.renewIfHeld q (.bank tbl) i = s := by
  rw [State.renewIfHeld, (s.holds_bank q tbl i).1]
  rfl

/-- A shadow write with nothing in hand, by a requester the regime allows. -/
theorem State.admitsWrite_bank {s : State} {q : Requester} (hregime : q = .service →
      s.regime.mode = .standby ∨ s.regime.mode = .safe) {tbl : BankTable} (hwalk : s.tables.walk.isRunning = false)
    (hcopy : s.tables.copy = none) (hswap : s.tables.swapPending = false) {i field : Nat} (hi : i < tbl.size)
    (hfield : field ≤ tbl.fields)
    (hcheck : field ≠ 0 → (s.tables.bank s.tables.shadow).entryAt (tbl.base + i) ≠ .failing) :
    s.AdmitsWrite q .shadow (.bank tbl) i field where
  hasIndex := hi
  hasField := hfield
  shadow _ := rfl
  regime hw := by
    obtain ⟨hq, hmode⟩ := (s.wrongRegimeFor_iff_parked q).1 hw
    exact hmode (hregime hq)
  idle _ hbusy := by
    rw [(s.bankBusy_eq_false_iff).2 ⟨hwalk, hcopy, hswap⟩] at hbusy
    cases hbusy
  own hw := by rw [(s.holds_bank q tbl i).2] at hw; cases hw
  other hw := by rw [(s.holds_bank q.other tbl i).1] at hw; cases hw
  check := hcheck

/-- Settles O55: the range of the field decides, and the shadow entry is the only one put. -/
theorem bankWritesReplaceOneEntry : Obligations.BankWritesReplaceOneEntry := by
  intro q tag index field value s hs hregime tbl hwalk hcopy hswap hi v r applied
  have put (e : BankFields) {x : State} (hx : x = s.setTables (s.tables.putBank s.tables.shadow tbl index.toNat e))
      (field' : Nibble) (value' : Value24) :
      let t := (x.renewIfHeld q (.bank tbl) index.toNat).withReply q tag (tableNibble (.bank tbl)) field' index value'
        .ok
      applied t e ∧ t.ports = (s.withReply q tag (tableNibble (.bank tbl)) field' index value' .ok).ports := by
    rw [State.renewIfHeld_bank, hx]
    obtain ⟨hframe, hrest⟩ := s.tables.putBank_shadow tbl index.toNat e
    have hstate := congrArg
      (fun u => (s.setTables u).withReply q tag (tableNibble (.bank tbl)) field' index value' .ok) hframe
    exact ⟨⟨hstate, hrest⟩, rfl⟩
  refine ⟨fun f hfield hfields hf => ?_, ?_⟩
  case refine_1 =>
    have hadmits := State.admitsWrite_bank hregime hwalk hcopy hswap hi hfields fun _ => hf ▸ nofun
    have hone : field.toNat = 1 ↔ field = 1 := ⟨fun h => BitVec.eq_of_toNat_eq h, fun h => h ▸ rfl⟩
    have hv : writtenValue (.bank tbl) index.toNat field.toNat value = v := by
      have hthree : index.toNat = 3 ↔ index = 3 := ⟨fun h => BitVec.eq_of_toNat_eq h, fun h => h ▸ rfl⟩
      have hfive : index.toNat = 5 ↔ index = 5 := ⟨fun h => BitVec.eq_of_toNat_eq h, fun h => h ▸ rfl⟩
      cases tbl <;> simp [writtenValue, signedField, v, hthree, hfive]
    have hr : fieldRange tbl index.toNat field.toNat = r := by
      cases tbl <;> simp only [fieldRange, hone] <;> rfl
    have hwrite : s.writeField (.bank tbl) index.toNat field.toNat
        (writtenValue (.bank tbl) index.toNat field.toNat value) =
          (if r.1 ≤ v ∧ v ≤ r.2 then some (if field = 1 then { f with f1 := v } else { f with f2 := v })
          else none).map fun e => s.setTables (s.tables.putBank s.tables.shadow tbl index.toNat e) := by
      rw [hv]
      refine congrArg (Option.map _) ?_
      have hread : (s.tables.bank s.tables.shadow).read tbl index.toNat = .passing f := hf
      rw [TableStore.bankWritten, hread]
      simp only [BankFields.write, hr, hone]
    refine ⟨fun hlo hhi => ?_, fun hout => ?_⟩
    · rw [if_pos ⟨hlo, hhi⟩] at hwrite
      exact ⟨_, exec_write_written hs tag hfield hadmits hwrite, put _ rfl field value⟩
    · rw [if_neg fun h => by omega] at hwrite
      exact exec_write_badValue hs tag hfield hadmits hwrite
  case refine_2 =>
    exact ⟨_, exec_entryReset_applied hs tag value (State.admitsWrite_bank hregime hwalk hcopy hswap hi (Nat.zero_le _)
      fun h => absurd rfl h), put clearedBankFields rfl 0 0⟩

end Sys2Proof.Machine
end

section
/-! PROOFS. Applied writes of the live tables (R145, R152, R171, R187, R188, R192). -/

namespace Sys2Proof.Machine

/-! ### Values without a meaning (R188, R201) -/

section
variable {n : Nat}

theorem flagOfCode_eq_none (h : 1 < n) : flagOfCode n = none := by
  rw [flagOfCode, if_neg (by omega), if_neg (by omega)]

theorem Port.ofCode_eq_none (h : 1 < n) : Port.ofCode n = none := by
  rw [Port.ofCode, if_neg (by omega), if_neg (by omega)]

theorem FwdAction.ofCode_eq_none (h : 3 < n) : FwdAction.ofCode n = none := by
  rw [FwdAction.ofCode, if_neg (by omega), if_neg (by omega), if_neg (by omega), if_neg (by omega)]

theorem roleOfCode_eq_none (h : 6 < n) : roleOfCode n = none := by
  rw [roleOfCode, if_neg (by omega), if_neg (by omega), if_neg (by omega), if_neg (by omega), if_neg (by omega),
    if_neg (by omega), if_neg (by omega)]

theorem DefaultAction.ofCode_eq_none (h : n ≠ 0) (h' : n ≠ 3) : DefaultAction.ofCode n = none := by
  rw [DefaultAction.ofCode, if_neg (by omega), if_neg (by omega)]

theorem Quantity.ofCode_eq_none (h : 6 < n) : Quantity.ofCode n = none := by
  rw [Quantity.ofCode, if_neg (by omega), if_neg (by omega), if_neg (by omega), if_neg (by omega), if_neg (by omega),
    if_neg (by omega), if_neg (by omega)]

theorem Comparison.ofCode_eq_none (h : 1 < n) : Comparison.ofCode n = none := by
  rw [Comparison.ofCode, if_neg (by omega), if_neg (by omega)]

theorem WatchAction.ofCode_eq_none (h : 4 < n) : WatchAction.ofCode n = none := by
  rw [WatchAction.ofCode, if_neg (by omega), if_neg (by omega), if_neg (by omega), if_neg (by omega), if_neg (by omega)]

theorem Consequence.ofCode_eq_none (h : 3 < n) : Consequence.ofCode n = Option.none := by
  rw [Consequence.ofCode, if_neg (by omega), if_neg (by omega), if_neg (by omega), if_neg (by omega)]

theorem ClearMode.ofCode_eq_none (h : 1 < n) : ClearMode.ofCode n = none := by
  rw [ClearMode.ofCode, if_neg (by omega), if_neg (by omega)]

/-- The forced set a number carries, by its bits. -/
theorem ForcedSet.ofBits_eq (n : Nat) : ForcedSet.ofBits n =
    if n ≤ 15 then some ⟨n.testBit 0, n.testBit 1, n.testBit 2, n.testBit 3⟩ else none := by
  unfold ForcedSet.ofBits
  refine if_congr (by omega) ?_ rfl
  simp only [BitVec.ofInt_natCast, BitVec.getLsbD_ofNat]
  rfl

end

/-! ### One field replaced -/

/-- A lookup entry with one field replaced by what the value means for it (R188). -/
theorem FwdEntry.write_eq (e : FwdEntry) (k n : Nat) : 1 ≤ k → k ≤ 5 → e.write k n =
    match k, n with
    | 1, 0 => some { e with valid := false } | 1, 1 => some { e with valid := true }
    | 2, 0 => some { e with port := .portU } | 2, 1 => some { e with port := .portD }
    | 3, n => if n ≤ 0x7FF then some { e with id := BitVec.ofNat 11 n } else none
    | 4, 0 => some { e with action := .pass } | 4, 1 => some { e with action := .consume }
    | 4, 2 => some { e with action := .consumePass } | 4, 3 => some { e with action := .drop }
    | 5, 0 => some { e with role := none } | 5, 1 => some { e with role := some .demand }
    | 5, 2 => some { e with role := some .battery } | 5, 3 => some { e with role := some .inverter }
    | 5, 4 => some { e with role := some .engine } | 5, 5 => some { e with role := some .clutch }
    | 5, 6 => some { e with role := some .brake }
    | _, _ => none := by
  intro hlo hhi
  interval_cases k
  · rcases n with _ | _ | n
    · rfl
    · rfl
    · exact congrArg (Option.map fun x => { e with valid := x }) (flagOfCode_eq_none (n := n + 2) (by omega))
  · rcases n with _ | _ | n
    · rfl
    · rfl
    · exact congrArg (Option.map fun x => { e with port := x }) (Port.ofCode_eq_none (n := n + 2) (by omega))
  · exact if_congr (by omega) (by rw [BitVec.ofInt_natCast]) rfl
  · by_cases h : 3 < n
    · rcases n with _ | _ | _ | _ | n <;> try omega
      exact congrArg (Option.map fun x => { e with action := x }) (FwdAction.ofCode_eq_none h)
    · interval_cases n <;> rfl
  · by_cases h : 6 < n
    · rcases n with _ | _ | _ | _ | _ | _ | _ | n <;> try omega
      exact congrArg (Option.map fun x => { e with role := x }) (roleOfCode_eq_none h)
    · interval_cases n <;> rfl

/-- The port defaults with one field replaced (R170). -/
theorem PortDefaults.write_eq (e : PortDefaults) (k n : Nat) : 1 ≤ k → k ≤ 2 → e.write k n =
    match k, n with
    | 1, 0 => some { e with u := .pass } | 1, 3 => some { e with u := .drop }
    | 2, 0 => some { e with d := .pass } | 2, 3 => some { e with d := .drop }
    | _, _ => none := by
  intro hlo hhi
  interval_cases k
  · rcases n with _ | _ | _ | _ | n
    · rfl
    · rfl
    · rfl
    · rfl
    · exact congrArg (Option.map fun x => { e with u := x })
        (DefaultAction.ofCode_eq_none (n := n + 4) (by omega) (by omega))
  · rcases n with _ | _ | _ | _ | n
    · rfl
    · rfl
    · rfl
    · rfl
    · exact congrArg (Option.map fun x => { e with d := x })
        (DefaultAction.ofCode_eq_none (n := n + 4) (by omega) (by omega))

/-- A watch entry with one field replaced; the threshold alone is signed (R188, R202). -/
theorem WatchEntry.write_eq (e : WatchEntry) (k i : Nat) (value : Value24) : 1 ≤ k → k ≤ 8 →
    e.write k (writtenValue (.live .watch) i k value) =
    match k, value.toNat with
    | 1, 0 => some { e with enable := false } | 1, 1 => some { e with enable := true }
    | 2, 0 => some { e with quantity := .soc } | 2, 1 => some { e with quantity := .shaftSpeed }
    | 2, 2 => some { e with quantity := .battTemp } | 2, 3 => some { e with quantity := .motorTemp }
    | 2, 4 => some { e with quantity := .coolantTemp } | 2, 5 => some { e with quantity := .demand }
    | 2, 6 => some { e with quantity := .unmet }
    | 3, 0 => some { e with comparison := .above } | 3, 1 => some { e with comparison := .below }
    | 4, _ => some { e with threshold := value.toInt }
    | 5, n => if n ≤ 500 then some { e with hysteresis := n } else none
    | 6, n => if n ≤ 511 then some { e with mask := BitVec.ofNat 9 n } else none
    | 7, 0 => some { e with action := .notify } | 7, 1 => some { e with action := .derateMotor }
    | 7, 2 => some { e with action := .derateEngine } | 7, 3 => some { e with action := .engineHold }
    | 7, 4 => some { e with action := .engineInhibit }
    | 8, n => if n ≤ 400 then some { e with actionValue := n } else none
    | _, _ => none := by
  intro hlo hhi
  have hunsigned : k ≠ 4 → writtenValue (.live .watch) i k value = (value.toNat : Int) := fun h =>
    if_neg fun hc => h (of_decide_eq_true hc)
  by_cases h4 : k = 4
  · subst h4
    rfl
  rw [hunsigned h4]
  generalize value.toNat = n
  interval_cases k
  · rcases n with _ | _ | n
    · rfl
    · rfl
    · exact congrArg (Option.map fun x => { e with enable := x }) (flagOfCode_eq_none (n := n + 2) (by omega))
  · by_cases h : 6 < n
    · rcases n with _ | _ | _ | _ | _ | _ | _ | n <;> try omega
      exact congrArg (Option.map fun x => { e with quantity := x }) (Quantity.ofCode_eq_none h)
    · interval_cases n <;> rfl
  · rcases n with _ | _ | n
    · rfl
    · rfl
    · exact congrArg (Option.map fun x => { e with comparison := x })
        (Comparison.ofCode_eq_none (n := n + 2) (by omega))
  · exact absurd rfl h4
  · exact if_congr (by omega) rfl rfl
  · exact if_congr (by omega) (by rw [BitVec.ofInt_natCast]) rfl
  · by_cases h : 4 < n
    · rcases n with _ | _ | _ | _ | _ | n <;> try omega
      exact congrArg (Option.map fun x => { e with action := x }) (WatchAction.ofCode_eq_none h)
    · interval_cases n <;> rfl
  · exact if_congr (by omega) rfl rfl

/-- A fault-map entry with one field replaced. -/
theorem FaultEntry.write_eq (e : FaultEntry) (k n : Nat) : 1 ≤ k → k ≤ 3 → e.write k n =
    match k, n with
    | 1, n => if n ≤ 15 then
        some { e with forced := ⟨n.testBit 0, n.testBit 1, n.testBit 2, n.testBit 3⟩ } else none
    | 2, 0 => some { e with consequence := .none } | 2, 1 => some { e with consequence := .limpEngine }
    | 2, 2 => some { e with consequence := .limpMotor } | 2, 3 => some { e with consequence := .safe }
    | 3, 0 => some { e with clearMode := .auto } | 3, 1 => some { e with clearMode := .manual }
    | _, _ => none := by
  intro hlo hhi
  interval_cases k
  · show (ForcedSet.ofBits n).map _ = _
    rw [ForcedSet.ofBits_eq]
    by_cases h : n ≤ 15
    · simp only [h, if_true]
      rfl
    · simp only [h, if_false]
      rfl
  · by_cases h : 3 < n
    · rcases n with _ | _ | _ | _ | n <;> try omega
      exact congrArg (Option.map fun x => { e with consequence := x }) (Consequence.ofCode_eq_none h)
    · interval_cases n <;> rfl
  · rcases n with _ | _ | n
    · rfl
    · rfl
    · exact congrArg (Option.map fun x => { e with clearMode := x }) (ClearMode.ofCode_eq_none (n := n + 2) (by omega))

end Sys2Proof.Machine
end

section
/-! PROOFS. What an applied WRITE and an applied entry reset of each live table put (R145, R152, R171, R187, R192). -/

namespace Sys2Proof.Machine

theorem Vector.setIfInBounds_fin {α : Type} {n : Nat} (v : Vector α n) (i : Fin n) (x : α) :
    v.setIfInBounds i.val x = v.set i x := by
  refine Vector.ext fun j hj => ?_
  rw [Vector.getElem_setIfInBounds, Vector.getElem_set]

/-! ### The entry put, table by table -/

/-- A clash with another entry of the table (R171). -/
theorem TableStore.fwdClash_iff (t : TableStore) (i : Fin 47) (x : FwdEntry) : t.fwdClash i x = true ↔
    x.valid = true ∧ ∃ (j : Fin 47) (y : FwdEntry), j ≠ i ∧ t.forward[j] = .passing y ∧ y.valid = true ∧
      ((x.port = y.port ∧ x.id = y.id) ∨ (x.role ≠ none ∧ x.role = y.role)) := by
  have hentry (j : Fin 47) : (decide (j.val ≠ i.val) && match t.forward[j] with
      | .passing y => x.clashes y
      | .failing => false) = true ↔
      j ≠ i ∧ ∃ y, t.forward[j] = .passing y ∧ x.clashes y = true := by
    rw [Bool.and_eq_true, decide_eq_true_iff, Fin.val_ne_iff]
    refine and_congr Iff.rfl ?_
    cases t.forward[j] with
    | failing => simp
    | passing y => simp
  have hclashes (y : FwdEntry) : x.clashes y = true ↔ (x.valid = true ∧ y.valid = true) ∧
      ((x.port = y.port ∧ x.id = y.id) ∨ (x.role ≠ none ∧ x.role = y.role)) := by
    simp only [FwdEntry.clashes, Bool.and_eq_true, Bool.or_eq_true, decide_eq_true_iff]
  simp only [TableStore.fwdClash, List.any_eq_true, List.mem_finRange, true_and]
  constructor
  · rintro ⟨j, hj⟩
    obtain ⟨hne, y, hy, hclash⟩ := (hentry j).1 hj
    obtain ⟨⟨hx, hvalid⟩, hboth⟩ := (hclashes y).1 hclash
    exact ⟨hx, j, y, hne, hy, hvalid, hboth⟩
  · rintro ⟨hx, j, y, hne, hy, hvalid, hboth⟩
    exact ⟨j, (hentry j).2 ⟨hne, y, hy, (hclashes y).2 ⟨⟨hx, hvalid⟩, hboth⟩⟩⟩

section
variable {s : State} (field : Nat) (v : Int)

theorem State.writeField_forward {i : Fin 47} {e : FwdEntry} (he : s.tables.forward[i] = .passing e) :
    s.writeField (.live .forward) i field v = ((e.write field v).filter fun x => !s.tables.fwdClash i x).map fun x =>
      { s with tables := { s.tables with forward := s.tables.forward.set i (.passing x) } } := by
  have hwritten : s.tables.fwdWritten i field v = (e.write field v).filter fun x => !s.tables.fwdClash i x := by
    rw [TableStore.fwdWritten, Vector.getD_getElem?_fin, he]
  have hne : i.val ≠ 47 := by omega
  simp only [State.writeField, if_neg hne, hwritten, Vector.setIfInBounds_fin]
  rfl

theorem State.writeField_defaults {e : PortDefaults} (he : s.tables.portDefaults = .passing e) :
    s.writeField (.live .forward) 47 field v = (e.write field v).map fun x =>
      { s with tables := { s.tables with portDefaults := .passing x } } := by
  have hwritten : s.tables.defaultsWritten field v = e.write field v := by
    rw [TableStore.defaultsWritten, he]
  simp only [State.writeField, if_true, hwritten]
  rfl

/-- The watch of a written entry (R152). -/
theorem WatchUnit.written_fin (w : WatchUnit) (i : Fin 16) (enabled : Bool) : w.written i enabled =
    { w with cells := w.cells.set i ⟨if enabled then .waiting else .disabled, w.cells[i].fired⟩ } := by
  have hfired : (w.cells[i.val]?.map WatchCell.fired).getD false = w.cells[i].fired := by simp
  rw [WatchUnit.written, hfired, Vector.setIfInBounds_fin]

theorem State.writeField_watch {i : Fin 16} {e : WatchEntry} (he : s.tables.watch[i] = .passing e) :
    s.writeField (.live .watch) i field v = ((e.write field v).filter WatchEntry.thresholdOk).map fun x =>
      { s with
        tables := { s.tables with watch := s.tables.watch.set i (.passing x) }
        watch := { s.watch with
          cells := s.watch.cells.set i ⟨if x.enable then .waiting else .disabled, s.watch.cells[i].fired⟩ } } := by
  have hwritten : s.tables.watchWritten i field v = (e.write field v).filter WatchEntry.thresholdOk := by
    rw [TableStore.watchWritten, Vector.getD_getElem?_fin, he]
  simp only [State.writeField, hwritten, Vector.setIfInBounds_fin, WatchUnit.written_fin]
  rfl

theorem State.writeField_faultMap {i : Fin 12} {e : FaultEntry} (he : s.tables.faultMap[i] = .passing e) :
    s.writeField (.live .faultMap) i field v = (e.write field v).map fun x =>
      { s with tables := { s.tables with faultMap := s.tables.faultMap.set i (.passing x) } } := by
  have hwritten : s.tables.faultWritten i field v = e.write field v := by
    rw [TableStore.faultWritten, Vector.getD_getElem?_fin, he]
  simp only [State.writeField, hwritten, Vector.setIfInBounds_fin]
  rfl

end

/-! ### Holds and the tests -/

/-- The window of the entry's holder restarts (R192). -/
theorem State.renewIfHeld_live {s x : State} {q : Requester} {l : LiveTable} {i : Nat} (hx : x.mgmt = s.mgmt)
    (hown : (s.mgmt.get q).hold = none ∨ (s.mgmt.get q).hold = some ⟨l, i⟩) :
    x.renewIfHeld q (.live l) i = if (s.mgmt.get q).hold = none then x
      else { x with mgmt := s.mgmt.set q { s.mgmt.get q with window := .running 500 } } := by
  have hholds := x.holds_live_iff q l i
  rw [hx] at hholds
  unfold State.renewIfHeld
  rcases hown with hnone | hsome
  · rw [if_neg (mt hholds.1 (hnone ▸ nofun)), if_pos hnone]
  · have hheld : (s.mgmt.get q).hold ≠ none := hsome ▸ nofun
    rw [if_pos (hholds.2 hsome), if_neg hheld, ← hx]
    rfl

/-- A write of a live entry that the other requester does not hold, in a regime R190 allows. -/
theorem State.admitsWrite_live {s : State} {q : Requester} {bank : BankSel} {l : LiveTable} {i field : Nat}
    (hother : (s.mgmt.get q.other).hold ≠ some ⟨l, i⟩)
    (hown : (s.mgmt.get q).hold = none ∨ (s.mgmt.get q).hold = some ⟨l, i⟩) (hi : i < l.size)
    (hfield : field ≤ TableName.fieldCount (.live l) i) (hregime : ¬ s.writeForbidden q (.live l) i field = true)
    (hcheck : field ≠ 0 → ¬ s.tables.FailsAt (.live l) i) : s.AdmitsWrite q bank (.live l) i field where
  hasIndex := hi
  hasField := hfield
  shadow := fun ⟨_, hc⟩ => nomatch hc
  regime := hregime
  idle := fun ⟨_, hc⟩ => nomatch hc
  own hc := by
    obtain ⟨hne, hapart⟩ := (s.holdsOther_live_iff q l i).1 hc
    exact hown.elim hne hapart
  other hc := hother ((s.holds_live_iff q.other l i).1 hc)
  check := hcheck

/-- What no regime forbids a requester that is the supervisor, or in STANDBY or SAFE. -/
theorem State.not_wrongRegimeFor {s : State} {q : Requester}
    (h : q = .supervisor ∨ s.regime.mode = .standby ∨ s.regime.mode = .safe) : ¬ s.wrongRegimeFor q = true := by
  intro hc
  obtain ⟨hq, hmode⟩ := (s.wrongRegimeFor_iff_parked q).1 hc
  rcases h with rfl | h
  · cases hq
  · exact hmode h

end Sys2Proof.Machine
end

section
/-! PROOFS. The writes of the live tables, table by table (R134, R143, R145, R169 to R171, R187, R190). -/

namespace Sys2Proof.Machine

/-- An entry that passes its check does not fail it. -/
theorem TableStore.not_failsAt_forward {t : TableStore} {i : Fin 47} {e : FwdEntry} (he : t.forward[i] = .passing e) :
    ¬ t.FailsAt (.live .forward) i := by
  have hget : t.forward[i.val]? = some (.passing e) := by rw [← he]; simp
  have hne : i.val ≠ 47 := by omega
  simp only [TableStore.FailsAt, if_neg hne, hget, Option.some.injEq, reduceCtorEq, not_false_eq_true]

theorem TableStore.not_failsAt_watch {t : TableStore} {i : Fin 16} {e : WatchEntry} (he : t.watch[i] = .passing e) :
    ¬ t.FailsAt (.live .watch) i := by
  have hget : t.watch[i.val]? = some (.passing e) := by rw [← he]; simp
  simp only [TableStore.FailsAt, hget, Option.some.injEq, reduceCtorEq, not_false_eq_true]

theorem TableStore.not_failsAt_faultMap {t : TableStore} {i : Fin 12} {e : FaultEntry}
    (he : t.faultMap[i] = .passing e) : ¬ t.FailsAt (.live .faultMap) i := by
  have hget : t.faultMap[i.val]? = some (.passing e) := by rw [← he]; simp
  simp only [TableStore.FailsAt, hget, Option.some.injEq, reduceCtorEq, not_false_eq_true]

/-- R190 allows a WRITE in STANDBY, and one of a field other than the role where no role is set. -/
theorem State.forwardAllowed {s : State} {q : Requester} {i : Fin 47} {field : Nibble} (hfield : field.toNat ≤ 5)
    (h : s.regime.mode = .standby ∨ ((∃ e, s.tables.forward[i] = .passing e ∧ e.role = none) ∧ field ≠ 5 ∧
      (q = .supervisor ∨ s.regime.mode = .standby ∨ s.regime.mode = .safe))) :
    ¬ s.writeForbidden q (.live .forward) i field.toNat = true := by
  have hne : i.val ≠ 47 := by omega
  rw [s.forwardForbidden_iff q (by omega) (by rwa [if_neg hne])]
  rcases h with hstandby | ⟨⟨e, he, hrole⟩, h5, hallowed⟩
  · simp [hstandby]
  · have hunset : ¬ s.tables.roleSet i = true := by
      rw [s.tables.roleSet_iff (by omega)]
      exact fun hc => hc.2 e (by rw [← he]; simp) hrole
    have hmode := s.not_wrongRegimeFor hallowed
    rw [s.wrongRegimeFor_iff_parked] at hmode
    rw [if_neg fun hc => h5 hc.2]
    exact fun hc => hc.elim (fun hc => hunset hc.1) fun hc => hmode hc.2

/-- The power-on default of a source, as an entry reset puts it (R9, R134). -/
theorem reset_faultMap : ∀ i : Fin 12,
    State.reset.tables.faultMap[i] = .passing (defaultFaultEntry (Fin.ofNat 12 i.val)) := by decide

/-- Settles O56: each table's write by its codes, and its tests as the entry would stand. -/
theorem liveWritesReplaceOneEntry : Obligations.LiveWritesReplaceOneEntry := by
  intro q tag bank index field value l s hs hother hown done written refused cleared parked v
  have hdone {x : State} (hx : x.mgmt = s.mgmt) : x.renewIfHeld q (.live l) index.toNat = done x :=
    State.renewIfHeld_live hx hown
  have admits (k : Nat) := State.admitsWrite_live (bank := bank) (field := k) hother hown
  have write {x : State} (hadmits : s.AdmitsWrite q bank (.live l) index.toNat field.toNat) (hfield : field ≠ 0)
      (hx : x.mgmt = s.mgmt) (hw : s.writeField (.live l) index.toNat field.toNat
        (writtenValue (.live l) index.toNat field.toNat value) = some x) : written x := by
    have hexec := exec_write_written hs tag hfield hadmits hw
    rw [hdone hx] at hexec
    exact hexec
  have refuse (hadmits : s.AdmitsWrite q bank (.live l) index.toNat field.toNat) (hfield : field ≠ 0)
      (hw : s.writeField (.live l) index.toNat field.toNat
        (writtenValue (.live l) index.toNat field.toNat value) = none) : refused :=
    exec_write_badValue hs tag hfield hadmits hw
  have clear {x : State} (hadmits : s.AdmitsWrite q bank (.live l) index.toNat 0) (hx : x.mgmt = s.mgmt)
      (hr : s.resetEntry (.live l) index.toNat = x) : cleared x := by
    have hexec := exec_entryReset_applied hs tag value hadmits
    rw [hr, hdone hx] at hexec
    exact hexec
  have hnonzero : 1 ≤ field.toNat → field ≠ 0 := fun h hc => by rw [hc] at h; exact absurd h (by decide)
  refine ⟨fun i hl hi => ?_, fun hl hi hallowed => ?_, fun i hl hi hallowed => ?_, fun i hl hi hallowed => ?_⟩
  case refine_1 =>
    subst hl
    intro put
    rw [hi] at admits write refuse clear
    have hne : i.val ≠ 47 := by omega
    have hcount : TableName.fieldCount (.live .forward) i.val = 5 := if_neg hne
    refine ⟨fun e he hlo hhi hallowed => ?_, fun hallowed => ?_⟩
    · intro changed clashes
      have hchanged : e.write field.toNat (writtenValue (.live .forward) i.val field.toNat value) = changed :=
        e.write_eq _ _ hlo hhi
      have hclash (x : FwdEntry) : s.tables.fwdClash i x = true ↔ clashes x := s.tables.fwdClash_iff i x
      have hadmits := admits field.toNat (Nat.lt_succ_of_lt i.isLt) (hcount ▸ hhi)
        (State.forwardAllowed hhi (hallowed.imp_right fun h => ⟨⟨e, he, h.1⟩, h.2⟩))
        fun _ => TableStore.not_failsAt_forward he
      have hw := State.writeField_forward field.toNat (writtenValue (.live .forward) i.val field.toNat value) he
      rw [hchanged] at hw
      refine ⟨fun x hx => ?_, fun hnone => refuse hadmits (hnonzero hlo) (by rw [hw, hnone]; rfl)⟩
      rw [hx, Option.filter_some] at hw
      refine ⟨fun hno => write (x := put x) hadmits (hnonzero hlo) rfl ?_,
        fun hc => refuse hadmits (hnonzero hlo) ?_⟩
      · rw [hw, Bool.eq_false_iff.2 (mt (hclash x).1 hno)]
        rfl
      · rw [hw, (hclash x).2 hc]
        rfl
    · have hadmits := admits 0 (Nat.lt_succ_of_lt i.isLt) (Nat.zero_le _) (State.forwardAllowed (field := 0)
        (Nat.zero_le _) (hallowed.imp_right fun ⟨e, he, hrole, h⟩ => ⟨⟨e, he, hrole⟩, by decide, h⟩))
        fun h => absurd rfl h
      refine clear (x := put clearedFwdEntry) hadmits rfl ?_
      simp only [State.resetEntry, if_neg hne, Vector.setIfInBounds_fin]
      rfl
  case refine_2 =>
    subst hl
    intro put
    rw [hi] at admits write refuse clear
    have hregime (k : Nat) (hk : k ≤ 2) : ¬ s.writeForbidden q (.live .forward) 47 k = true := by
      have hfive : k ≠ 5 := by omega
      simpa [State.writeForbidden, TableStore.roleSet, hfive] using State.not_wrongRegimeFor hallowed
    refine ⟨fun e he hlo hhi => ?_, ?_⟩
    · intro changed
      have hchanged : e.write field.toNat (writtenValue (.live .forward) 47 field.toNat value) = changed :=
        e.write_eq _ _ hlo hhi
      have hadmits := admits field.toNat (by decide) hhi (hregime _ hhi) fun _ => by
        simp [TableStore.FailsAt, he]
      have hw := State.writeField_defaults field.toNat (writtenValue (.live .forward) 47 field.toNat value) he
      rw [hchanged] at hw
      exact ⟨fun x hx => write (x := put x) hadmits (hnonzero hlo) rfl (by rw [hw, hx]; rfl),
        fun hnone => refuse hadmits (hnonzero hlo) (by rw [hw, hnone]; rfl)⟩
    · exact clear (x := put clearedPortDefaults)
        (admits 0 (by decide) (Nat.zero_le _) (hregime 0 (by decide)) fun h => absurd rfl h) rfl rfl
  case refine_3 =>
    subst hl
    intro put
    rw [hi] at admits write refuse clear
    have hregime : ¬ s.wrongRegimeFor q = true := State.not_wrongRegimeFor hallowed
    refine ⟨fun e he hlo hhi => ?_, ?_⟩
    · intro changed
      have hchanged : e.write field.toNat (writtenValue (.live .watch) i.val field.toNat value) = changed :=
        e.write_eq _ i.val value hlo hhi
      have hadmits := admits field.toNat i.isLt hhi hregime fun _ => TableStore.not_failsAt_watch he
      have hw := State.writeField_watch field.toNat (writtenValue (.live .watch) i.val field.toNat value) he
      rw [hchanged] at hw
      refine ⟨fun x hx => ?_, fun hnone => refuse hadmits (hnonzero hlo) (by rw [hw, hnone]; rfl)⟩
      intro range
      have hrange : x.thresholdOk = true ↔ range.1 ≤ x.threshold ∧ x.threshold ≤ range.2 := by
        have hquantity : x.quantity.range = range := by
          simp only [range]
          cases x.quantity <;> rfl
        rw [WatchEntry.thresholdOk, decide_eq_true_iff, hquantity]
      rw [hx, Option.filter_some] at hw
      refine ⟨fun hmin hmax => write (x := put x) hadmits (hnonzero hlo) rfl ?_,
        fun hout => refuse hadmits (hnonzero hlo) ?_⟩
      · rw [hw, if_pos (hrange.2 ⟨hmin, hmax⟩)]
        rfl
      · rw [hw, if_neg (mt hrange.1 fun h => by omega)]
        rfl
    · refine clear (x := put clearedWatchEntry)
        (admits 0 i.isLt (Nat.zero_le _) hregime fun h => absurd rfl h) rfl ?_
      simp only [State.resetEntry, Vector.setIfInBounds_fin, WatchUnit.written_fin]
      rfl
  case refine_4 =>
    subst hl
    intro put
    rw [hi] at admits write refuse clear
    have hregime : ¬(!s.inStandbyOrSafe) = true := by simpa using s.inStandbyOrSafe_iff.2 hallowed
    refine ⟨fun e he hlo hhi => ?_, ?_⟩
    · intro changed
      have hchanged : e.write field.toNat (writtenValue (.live .faultMap) i.val field.toNat value) = changed :=
        e.write_eq _ _ hlo hhi
      have hadmits := admits field.toNat i.isLt hhi hregime fun _ => TableStore.not_failsAt_faultMap he
      have hw := State.writeField_faultMap field.toNat (writtenValue (.live .faultMap) i.val field.toNat value) he
      rw [hchanged] at hw
      exact ⟨fun x hx => write (x := put (.passing x)) hadmits (hnonzero hlo) rfl (by rw [hw, hx]; rfl),
        fun hnone => refuse hadmits (hnonzero hlo) (by rw [hw, hnone]; rfl)⟩
    · refine clear (x := put State.reset.tables.faultMap[i])
        (admits 0 i.isLt (Nat.zero_le _) hregime fun h => absurd rfl h) rfl ?_
      simp only [State.resetEntry, Vector.setIfInBounds_fin, reset_faultMap]
      rfl

end Sys2Proof.Machine
end
